-- ==== Sys2Proof/Word.lean ====
section
/-! DEFINITION. The word types of the MegaDuck print CORE (R12: a byte is 8 bits, bit 7 the most significant; R90: a
command word is 16 bits, bit 15 the most significant). -/

namespace Sys2Proof

/-- A byte (R12). -/
abbrev Byte := BitVec 8

/-- A command word `cw[15:0]` (R90, R91). -/
abbrev CmdWord := BitVec 16

end Sys2Proof
end

