-- ==== Sys2Proof/Config.lean ====
section
/-! DEFINITION. What an implementation fixes (R8), the constants the source fixes (R7), and the free values: constants with
no body, of which nothing can be proved. -/

namespace Sys2Proof

/-- The parameters the source leaves open (R8; section 3 of 93_implementation_defined.md). A machine carries one value of
this record, `State.params`, which no step writes, so that a claim over every state is a claim over every parameter.
See log 4. -/
structure Params where
  /-- W_SCR: width in bits of SCX, SCY, WY. -/
  wScr : Nat
  /-- W_ID: width in bits of a tile id. -/
  wId : Nat
  /-- W_IE: width in bits of IE. -/
  wIe : Nat
  /-- CMD_PRINT_SEND_BYTES: the link command of every packet (R102). -/
  cmdPrintSendBytes : Byte
  /-- IE_VBL_MASK: the bits of IE that select the vertical-blank interrupt (R34). -/
  ieVblMask : Nat
  /-- N_TRAILER: the number of trailing blank rows (R221). -/
  nTrailer : Nat
  /-- RETRY_SLEEP_AFTER_LAST: whether the tenth failed attempt is followed by a sleep too (R163). -/
  retrySleepAfterLast : Bool
  deriving DecidableEq, Repr

/-- The constraints R8 puts on the open parameters. -/
abbrev Params.wf (p : Params) : Prop :=
  8 ≤ p.wScr ∧ 1 ≤ p.wId ∧ 1 ≤ p.wIe ∧ 0 < p.ieVblMask ∧ p.ieVblMask < 2 ^ p.wIe ∧ 1 ≤ p.nTrailer

namespace Config

/-- CR, the carriage return control byte (R7, R102). -/
abbrev cr : Byte := 0x0D
/-- LF, the line feed control byte (R7, R102). -/
abbrev lf : Byte := 0x0A
/-- P1_TAIL_BYTE, the filler of the trailing unknown phase (R7, R165). -/
abbrev tailByte : Byte := 0x00
/-- DITHER_M0, the dither mask of source row 0 (R7, R122). -/
abbrev ditherM0 : Byte := 0xAA
/-- RETRY_MAX, the attempts of the retry wrapper (R7, R163). -/
abbrev retryMax : Nat := 10
/-- T_RETRY in milliseconds (R7, R163). -/
abbrev tRetry : Nat := 1
/-- T_READY in milliseconds (R7, R164, R165). -/
abbrev tReady : Nat := 100
/-- T_ACK in milliseconds (R7, R166, R194). -/
abbrev tAck : Nat := 200
/-- T_ROW in milliseconds (R7, R167). -/
abbrev tRow : Nat := 1000
/-- P1_PACKETS (R7, R162). -/
abbrev p1Packets : Nat := 4
/-- P1_BULK (R7, R164). -/
abbrev p1Bulk : Nat := 112
/-- P1_TAIL (R7, R165). -/
abbrev p1Tail : Nat := 6

/-- The link layer's answer to the n-th `LinkSendCmdBuf` beyond the scripted ones: a free value (R40: "The answers are free
inputs"). DESIGN CHOICE, safe: log 2. -/
opaque linkSendAnswer : Nat → Bool

/-- The link layer's answer to the n-th `LinkReadWait` beyond the scripted ones: `some b` when the byte b arrived within the
time-out, `none` when not. A free value (R40, R22). DESIGN CHOICE, safe: log 2, log 16. -/
opaque linkReadAnswer : Nat → Option Byte

/-- The result of the n-th `printer_query` beyond the scripted ones: a free value (R211). DESIGN CHOICE, safe: log 22. -/
opaque queryAnswer : Nat → Byte

/-- What a register that R45 calls "unspecified" holds after reset number `n`: `resetBits w n slot` is the w-bit register
numbered `slot`. A free value; the slots are numbered in `Sys2Proof.Machine.State.drawUnspecified`. DESIGN CHOICE: log 5. -/
opaque resetBits : (w : Nat) → Nat → Nat → BitVec w

/-- CMD_PRINT_SEND_BYTES of the machine that `State.reset` describes; R8 gives no default. Log 4. -/
opaque cmdPrintSendBytes : Byte

/-- N_TRAILER less one, of the machine that `State.reset` describes; R8 gives no default. Log 4. -/
opaque extraTrailerRows : Nat

/-- IE_VBL_MASK of the machine that `State.reset` describes is `ieVblMaskSeed % 255 + 1`: any non-empty set of the 8 bits of
its IE. R8 gives no default. Log 4. -/
opaque ieVblMaskSeed : Nat

/-- The parameters of the machine that `State.reset` describes: R8's suggested defaults where it has one, uninterpreted
constants where it has none. DESIGN CHOICE: log 4. -/
def resetParams : Params where
  wScr := 8
  wId := 8
  wIe := 8
  cmdPrintSendBytes := cmdPrintSendBytes
  ieVblMask := ieVblMaskSeed % 255 + 1
  nTrailer := extraTrailerRows + 1
  retrySleepAfterLast := false

end Config

end Sys2Proof
end

