-- ==== Sys2Proof/Syntax.lean ====
section
/-! DEFINITION. The commands of the CORE as data (R95), their plane selectors (R100), and the host's pseudo-instructions
(R98). -/

namespace Sys2Proof

/-- The plane selector of ASM, the three-valued tag of R100. -/
inductive PlaneSel where
  | plane0
  | plane1
  | both
  deriving DecidableEq, Repr

/-- The bitplane of a TX2 transit: `psel` in {0, 1} only (R191; psel = 2 is illegal in TX2, R96). -/
inductive Plane where
  | plane0
  | plane1
  deriving DecidableEq, Repr

/-- The four commands of the opcode map R95, one constructor per row of spec/opcode_table.json. -/
inductive Instr where
  /-- CLR: make RB the blank row (R141). -/
  | clr
  /-- ASM row, psel: assemble output row `row` into RB under `psel` (R142). -/
  | asm (row : BitVec 5) (psel : PlaneSel)
  /-- TX1: send RB, single-pass variant (R161). -/
  | tx1
  /-- TX2 plane: send RB as the transit of one bitplane (R191). -/
  | tx2 (plane : Plane)
  deriving DecidableEq, Repr

/-- The host macros of R98 that stand for a sequence of command words. PRINT_SCREEN, which has conditions between its
commands, is `Sys2Proof.Machine.printScreen`. -/
inductive Pseudo where
  | blankRow1
  | blankRow2
  | row1 (row : BitVec 5)
  | row2 (row : BitVec 5)
  deriving DecidableEq, Repr

/-- The operand text of a plane selector (R97). -/
def PlaneSel.text : PlaneSel → String
  | .plane0 => "PLANE0"
  | .plane1 => "PLANE1"
  | .both => "BOTH"

/-- The operand text of a TX2 plane (R97). -/
def Plane.text : Plane → String
  | .plane0 => "PLANE0"
  | .plane1 => "PLANE1"

/-- The command written in the syntax of R97. -/
def Instr.text : Instr → String
  | .clr => "CLR"
  | .asm row psel => "ASM " ++ toString row.toNat ++ ", " ++ psel.text
  | .tx1 => "TX1"
  | .tx2 plane => "TX2 " ++ plane.text

end Sys2Proof
end

