-- ==== Sys2Proof/WellFormed.lean ====
section
/-! DEFINITION. Which command terms stand for a legal command word: the operand constraints of R95 that the types of
Syntax.lean do not already enforce. -/

namespace Sys2Proof

/-- R92 step 5 and R93: ASM's output row index is 0..17. The other constraints of R92 (psel not 3, psel not BOTH in TX2,
unused fields zero) cannot be broken by a term of `Instr`. -/
def Instr.wellFormed : Instr → Bool
  | .clr => true
  | .asm row _ => decide (row.toNat ≤ 17)
  | .tx1 => true
  | .tx2 _ => true

end Sys2Proof
end

