-- ==== Sys2Proof/Decode.lean ====
section
/-! DEFINITION. The decoder of the command word (R91, R92), total on all 65536 words and refusing by name, and the encoder
written from the same table (R95). -/

namespace Sys2Proof

/-- Why a command word is illegal. Every one of these raises the same IllegalCommand (R96, R249). -/
inductive DecodeRefusal where
  /-- R92 step 1: the opcode is 0 or 5 to 15. -/
  | reservedOpcode
  /-- R92 step 2: z1 = cw[11:10] or z2 = cw[7:5] is not zero. -/
  | reservedBits
  /-- R92 steps 3 to 5: the psel field is not one the command has. -/
  | badPsel
  /-- R92 steps 3 to 5: the row field is above 17 in ASM, or not zero in another command. -/
  | badRow
  deriving DecidableEq, Repr

/-- Field `opc` = cw[15:12] (R91). -/
def opcField (cw : CmdWord) : BitVec 4 := cw.extractLsb' 12 4
/-- Field `z1` = cw[11:10] (R91). -/
def z1Field (cw : CmdWord) : BitVec 2 := cw.extractLsb' 10 2
/-- Field `psel` = cw[9:8] (R91). -/
def pselField (cw : CmdWord) : BitVec 2 := cw.extractLsb' 8 2
/-- Field `z2` = cw[7:5] (R91). -/
def z2Field (cw : CmdWord) : BitVec 3 := cw.extractLsb' 5 3
/-- Field `row` = cw[4:0] (R91). -/
def rowField (cw : CmdWord) : BitVec 5 := cw.extractLsb' 0 5

/-- The plane selector a psel field stands for (R100); 3 is reserved in every format (R96). -/
def PlaneSel.ofBits (b : BitVec 2) : Option PlaneSel :=
  match b.toNat with
  | 0 => some .plane0
  | 1 => some .plane1
  | 2 => some .both
  | _ => none

/-- The bitplane a psel field of TX2 stands for; 2 and 3 are illegal there (R96). -/
def Plane.ofBits (b : BitVec 2) : Option Plane :=
  match b.toNat with
  | 0 => some .plane0
  | 1 => some .plane1
  | _ => none

/-- The code of a plane selector (R100). -/
def PlaneSel.code : PlaneSel → BitVec 2
  | .plane0 => 0
  | .plane1 => 1
  | .both => 2

/-- The code of a TX2 plane (R100). -/
def Plane.code : Plane → BitVec 2
  | .plane0 => 0
  | .plane1 => 1

/-- R92 step 3, for CLR and TX1: the psel and row fields must be zero. -/
def decodeZ (i : Instr) (cw : CmdWord) : Except DecodeRefusal Instr :=
  if pselField cw ≠ 0 then .error .badPsel
  else if rowField cw ≠ 0 then .error .badRow
  else .ok i

/-- R92 step 4, for TX2. -/
def decodeP (cw : CmdWord) : Except DecodeRefusal Instr :=
  match Plane.ofBits (pselField cw) with
  | none => .error .badPsel
  | some p => if rowField cw ≠ 0 then .error .badRow else .ok (.tx2 p)

/-- R92 step 5, for ASM. -/
def decodeRP (cw : CmdWord) : Except DecodeRefusal Instr :=
  match PlaneSel.ofBits (pselField cw) with
  | none => .error .badPsel
  | some p => if 17 < (rowField cw).toNat then .error .badRow else .ok (.asm (rowField cw) p)

/-- R92 step 2: the reserved bits z1 and z2 must be zero; then the format's own check. -/
def checkReserved (cw : CmdWord) (k : Except DecodeRefusal Instr) : Except DecodeRefusal Instr :=
  if z1Field cw ≠ 0 ∨ z2Field cw ≠ 0 then .error .reservedBits else k

/-- Decoding of a command word (R92), in its order of checks. -/
def decode (cw : CmdWord) : Except DecodeRefusal Instr :=
  match (opcField cw).toNat with
  | 1 => checkReserved cw (decodeZ .clr cw)
  | 2 => checkReserved cw (decodeRP cw)
  | 3 => checkReserved cw (decodeZ .tx1 cw)
  | 4 => checkReserved cw (decodeP cw)
  | _ => .error .reservedOpcode

/-- The opcode of a command (R95). -/
def Instr.opcode : Instr → BitVec 4
  | .clr => 1
  | .asm _ _ => 2
  | .tx1 => 3
  | .tx2 _ => 4

/-- The psel field of a command's word: zero in the formats that have none (R91). -/
def Instr.pselBits : Instr → BitVec 2
  | .clr => 0
  | .asm _ psel => psel.code
  | .tx1 => 0
  | .tx2 plane => plane.code

/-- The row field of a command's word: zero in the formats that have none (R91). -/
def Instr.rowBits : Instr → BitVec 5
  | .clr => 0
  | .asm row _ => row
  | .tx1 => 0
  | .tx2 _ => 0

/-- The command word of a command (R91, R95): opc, z1 = 00, psel, z2 = 000, row. -/
def encode (i : Instr) : CmdWord :=
  i.opcode ++ (0#2 ++ (i.pselBits ++ (0#3 ++ i.rowBits)))

/-- `match` of the command's row of R95. -/
def Instr.tableMatch : Instr → CmdWord
  | .clr => 0x1000
  | .asm _ _ => 0x2000
  | .tx1 => 0x3000
  | .tx2 _ => 0x4000

/-- `mask` of the command's row of R95. -/
def Instr.tableMask : Instr → CmdWord
  | .clr => 0xFFFF
  | .asm _ _ => 0xFCE0
  | .tx1 => 0xFFFF
  | .tx2 _ => 0xFEFF

/-- The expansion of a host macro into command words (R98, R216 to R219). -/
def Pseudo.words : Pseudo → List CmdWord
  | .blankRow1 => [encode .clr, encode .tx1]
  | .blankRow2 => [encode .clr, encode (.tx2 .plane0), encode (.tx2 .plane1)]
  | .row1 row => [encode (.asm row .both), encode .tx1]
  | .row2 row =>
    [encode (.asm row .plane0), encode (.tx2 .plane0), encode (.asm row .plane1), encode (.tx2 .plane1)]

/-- The command word that a table word of `nbits` bits stands for: a command is one 16-bit word (R90), bits above `nbits`
are zero. -/
def wordOfTable (nbits w : Nat) : CmdWord := BitVec.ofNat 16 (w % 2 ^ nbits)

/-- What the decoder reads from a word of spec/opcode_table.json's numbering (bit 0 the least significant). -/
def decodeTableWord (nbits w : Nat) : Option Instr :=
  match decode (wordOfTable nbits w) with
  | .ok i => some i
  | .error _ => none

end Sys2Proof
end

