-- ==== Sys2Proof/Machine/State.lean ====
section
/-! DEFINITION. The state of the machine (10_state.md, 20_memory.md), its reasons to stop, and the state after reset (R45). -/

namespace Sys2Proof.Machine

/-- Why a step stops without a next state. -/
inductive Fault where
  /-- Raised by `engineStep` only, in a combination of PHASE, OPC, PKT, IDX, ATT and PSELR that no row of the table R27
  covers (for example PHASE = PKT_LOAD while OPC is CLR). No run from a state with `State.Inv` reaches one. Safe: the model
  stops where the spec gives no step. Log 10. -/
  | noSequencingRow
  deriving DecidableEq, Repr

/-- Why the model gives an instruction no meaning. -/
inductive Refusal where
  /-- The instruction named has no meaning in this model; no arm of `exec` answers with it. Safe. -/
  | notModelled (mnemonic : String)
  deriving DecidableEq, Repr

/-- The values of PHASE (R26). -/
inductive Phase where
  | idle
  | clrRun
  | asmRun
  | pktLoad
  | pktSend
  | pktBackoff
  | bulkWait
  | bulkEmit
  | tailWait
  | tailEmit
  | ack1
  | ack2
  | pace
  | ackCr
  deriving DecidableEq, Repr

/-- The writable fields of STATUS (R36). Bits 7:5 are hardwired to zero and so are not stored; `Status.word` is the register
as the host reads it. -/
structure Status where
  /-- STATUS[0], BUSY. -/
  busy : Bool
  /-- STATUS[1], DONE. -/
  done : Bool
  /-- STATUS[2], OK. -/
  ok : Bool
  /-- STATUS[4:3], ERR. -/
  err : BitVec 2
  deriving DecidableEq, Repr

/-- The tile latches of an ASM command (R23). A tile id is a natural below 2^W_ID (R8). -/
structure TileLatches where
  tid : Nat
  pat : Vector Byte 16
  out : Vector Byte 8
  dmask : Byte
  tcol : BitVec 5
  deriving DecidableEq, Repr

/-- The operand latches OPC, ROWR, PSELR (R24). -/
structure OperandLatches where
  opc : BitVec 4
  rowr : BitVec 5
  pselr : BitVec 2
  deriving DecidableEq, Repr

/-- The sampled configuration latches LSCX, LSCY, LWY, LWIN (R24): naturals below 2^W_SCR and one bit. -/
structure ConfigLatches where
  lscx : Nat
  lscy : Nat
  lwy : Nat
  lwin : Bool
  deriving DecidableEq, Repr

/-- The transactions of a run (R108). -/
inductive Event where
  /-- A `LinkSendCmdBuf` is answered: the command byte, TXLEN, the list TXB[0..TXLEN-1], and the answer. -/
  | cmdBuf (cmd : Byte) (len : Byte) (data : List Byte) (ok : Bool)
  /-- A `LinkReadWait` is answered: its time-out in milliseconds and whether a byte arrived. -/
  | readWait (ms : Nat) (arrived : Bool)
  /-- A `LinkSendByte` is made. -/
  | sendByte (b : Byte)
  /-- A `Sleep` ends: its milliseconds. -/
  | sleep (ms : Nat)
  deriving DecidableEq, Repr

/-- The pattern store: (16 * id + k, byte), in canonical form (`Memory.wf`). The number 16 * id + k is the list's own key, no
address of the hardware (R62, R72; log 8). -/
abbrev Memory := List Host.Cell

/-- A tile map: (32 * row + col, tile id), in canonical form (`TileMap.wf`). The number 32 * row + col is the list's own key,
no address of the hardware (R60, R72; log 8). -/
abbrev TileMap := List (Nat × Nat)

/-- What the framebuffer layer holds and presents (R30 to R33, R60 to R63): the two maps, the pattern store, and the level
inputs. SCX, SCY, WY are naturals below 2^W_SCR. -/
structure FrameBuffer where
  bkg : TileMap
  win : TileMap
  pattern : Memory
  scx : Nat
  scy : Nat
  wy : Nat
  winEn : Bool
  deriving DecidableEq, Repr

/-- The link layer's side of its port (R40), the MODEL's own fields: for each kind of transaction, the answers the outside
world has put in place, oldest first, and how many uninterpreted answers were drawn after them. Log 2, log 22. -/
structure LinkLayer where
  sendScript : List Bool
  sendDraws : Nat
  readScript : List (Option Byte)
  readDraws : Nat
  queryScript : List Byte
  queryDraws : Nat
  deriving DecidableEq, Repr

/-- The printer type of a job (R210, R212). -/
inductive PrinterType where
  | fail
  | ok1Pass
  | ok2Pass
  deriving DecidableEq, Repr

/-- The states of the coordinator (R224). -/
inductive JobState where
  | idle
  | querying
  | preamble
  | body (r : Nat)
  | trailer (k : Nat)
  | epilogue
  deriving DecidableEq, Repr

/-- The host's coordinator C5 (R210, R224): its state, a print request from its caller, the variables `type`, `ie_saved` and
`ok` of R210, the words of the current pseudo-instruction it still has to issue and whether one is outstanding (R209), and the
result of the last job (R223; `none` before the first one ends). -/
structure Coordinator where
  job : JobState
  request : Bool
  printer : PrinterType
  ieSaved : Nat
  todo : List CmdWord
  waiting : Bool
  ok : Bool
  result : Option Bool
  deriving DecidableEq, Repr

/-- How much of a command one step of the machine runs: the MODEL's own choice of grain. Log 1. -/
inductive Grain where
  /-- One row of the sequencing table a step, as R27 says: "a step performs at most one link or timer transaction". -/
  | row
  /-- One whole command a step, by its sequential pseudocode (`exec`). -/
  | command
  deriving DecidableEq, Repr

/-- The machine: every piece of state the spec gives the CORE, the framebuffer layer, the host system and the coordinator,
the parameters of R8, and the model's own fields (INVENTORY.md, State). -/
structure State where
  /-- The open parameters (R8); no step writes them. -/
  params : Params
  /-- RB, the row buffer (R20). -/
  rb : Vector Byte 160
  /-- TXB, the tx buffer (R21). -/
  txb : Vector Byte 12
  /-- TXLEN (R21). -/
  txlen : Byte
  /-- RXB, the receive slot (R22). -/
  rxb : Byte
  /-- TID, PAT, OUT, DMASK, TCOL (R23). -/
  tile : TileLatches
  /-- OPC, ROWR, PSELR (R24). -/
  ops : OperandLatches
  /-- LSCX, LSCY, LWY, LWIN (R24). -/
  cfg : ConfigLatches
  /-- PHASE (R25, R26). -/
  phase : Phase
  /-- PKT (R25). -/
  pkt : BitVec 4
  /-- IDX (R25). -/
  idx : BitVec 7
  /-- ATT (R25). -/
  att : BitVec 4
  /-- STATUS (R36). -/
  status : Status
  /-- EINFO (R37). -/
  einfo : BitVec 16
  /-- BKG, WIN, PATTERN, SCX, SCY, WY, WIN_EN (R30 to R33, R60). -/
  fb : FrameBuffer
  /-- IE (R34): a natural below 2^W_IE. -/
  ie : Nat
  /-- The command port (R35, R39): the words the host has issued and the engine has not accepted, oldest first; the head is
  the word presented. -/
  cmdQueue : List CmdWord
  /-- The ordered trace of link and timer transactions (R11, R108), oldest first. -/
  trace : List Event
  /-- The link layer's answers (R40; the model's own). -/
  link : LinkLayer
  /-- The host's coordinator (R224). -/
  host : Coordinator
  /-- The reset event of R270 as an input (the model's own; log 17). -/
  resetLine : Bool
  /-- How many reset events there have been (the model's own; log 5). -/
  resets : Nat
  /-- The grain of a step (the model's own; no step writes it; log 1). -/
  grain : Grain
  deriving DecidableEq, Repr

/-- The fields of STATUS after reset (R45). -/
def Status.reset : Status := ⟨false, false, false, 0⟩

/-- Every register that R45 marks "unspecified" takes a value nothing is known of: the draws of reset number `n`. The rows R45
fixes (PHASE, STATUS, EINFO) take their values; everything that is not CORE's stays. DESIGN CHOICE: log 5. -/
def State.drawUnspecified (n : Nat) (s : State) : State :=
  { s with
    phase := .idle
    status := Status.reset
    einfo := 0
    rb := Vector.ofFn fun i => Config.resetBits 8 n i.val
    txb := Vector.ofFn fun i => Config.resetBits 8 n (160 + i.val)
    txlen := Config.resetBits 8 n 172
    rxb := Config.resetBits 8 n 173
    tile :=
      { tid := (Config.resetBits s.params.wId n 174).toNat
        pat := Vector.ofFn fun i => Config.resetBits 8 n (175 + i.val)
        out := Vector.ofFn fun i => Config.resetBits 8 n (191 + i.val)
        dmask := Config.resetBits 8 n 199
        tcol := Config.resetBits 5 n 200 }
    ops :=
      { opc := Config.resetBits 4 n 201
        rowr := Config.resetBits 5 n 202
        pselr := Config.resetBits 2 n 203 }
    cfg :=
      { lscx := (Config.resetBits s.params.wScr n 204).toNat
        lscy := (Config.resetBits s.params.wScr n 205).toNat
        lwy := (Config.resetBits s.params.wScr n 206).toNat
        lwin := (Config.resetBits 1 n 207).getLsbD 0 }
    pkt := Config.resetBits 4 n 208
    idx := Config.resetBits 7 n 209
    att := Config.resetBits 4 n 210 }

/-- What stands around the CORE when it is reset, none of it CORE's (R45: "whatever their owner presents"): an empty
framebuffer, IE = 0, no word presented, nothing recorded, no answer scripted, no job. DESIGN CHOICE: log 6, log 7. The CORE's
registers in it are placeholders that `State.drawUnspecified` replaces, every one. -/
def State.surroundings : State where
  params := Config.resetParams
  rb := Vector.replicate 160 0
  txb := Vector.replicate 12 0
  txlen := 0
  rxb := 0
  tile := ⟨0, Vector.replicate 16 0, Vector.replicate 8 0, 0, 0⟩
  ops := ⟨0, 0, 0⟩
  cfg := ⟨0, 0, 0, false⟩
  phase := .idle
  pkt := 0
  idx := 0
  att := 0
  status := Status.reset
  einfo := 0
  fb := ⟨[], [], [], 0, 0, 0, false⟩
  ie := 0
  cmdQueue := []
  trace := []
  link := ⟨[], 0, [], 0, [], 0⟩
  host := ⟨.idle, false, .fail, 0, [], false, false, none⟩
  resetLine := false
  resets := 0
  grain := .row

/-- The machine right after reset (R45, R270, R271): PHASE = IDLE, STATUS = 0, EINFO = 0, every other register of the CORE
uninterpreted (log 5), and the surroundings of log 6. -/
def State.reset : State := State.surroundings.drawUnspecified 0

end Sys2Proof.Machine
end

