-- ==== Sys2Proof/Machine/Flags.lean ====
section
/-! DEFINITION. STATUS (R36). The CORE has no arithmetic flags (R28): the one status a command leaves is its completion or its
error. -/

namespace Sys2Proof.Machine

/-- The errors a command can raise (R241); NoPrinter and AckMissed are no errors of the CORE (R243, R245). -/
inductive ErrorKind where
  | packetSendTimeout
  | illegalCommand
  deriving DecidableEq, Repr

/-- The code of STATUS.ERR (R241): 1 PacketSendTimeout, 2 IllegalCommand. -/
def ErrorKind.code : ErrorKind → BitVec 2
  | .packetSendTimeout => 1
  | .illegalCommand => 2

/-- STATUS as the host reads it (R36): BUSY[0], DONE[1], OK[2], ERR[4:3], and [7:5] hardwired to zero. -/
def Status.word (st : Status) : BitVec 8 :=
  0#3 ++ (st.err ++ (BitVec.ofBool st.ok ++ (BitVec.ofBool st.done ++ BitVec.ofBool st.busy)))

/-- STATUS from the acceptance of a legal command on (R36, R39): BUSY = 1, the rest 0. -/
def Status.accepted : Status := ⟨true, false, false, 0⟩

/-- STATUS after `complete(ok)` (R36). -/
def Status.completed (ok : Bool) : Status := ⟨false, true, ok, 0⟩

/-- STATUS after `raise` (R246). -/
def Status.raised (kind : ErrorKind) : Status := ⟨false, true, false, kind.code⟩

end Sys2Proof.Machine
end

