-- ==== Sys2Proof/Machine/Memory.lean ====
section
/-! DEFINITION. The framebuffer's three spaces (R60 to R63): what an unlisted cell reads as, reading and writing one cell, the
canonical form, and the accessors of the framebuffer port (R41). The writes are the framebuffer layer's own, made from
outside the machine: no step makes one (R10, R63; log 14). -/

namespace Sys2Proof.Machine

/-- The tile id an unlisted map cell reads as. The maps are total (R61) and the spec gives no contents; id 0. DESIGN CHOICE,
unsafe: log 7. -/
abbrev unlistedId : Nat := 0

/-- The byte an unlisted pattern cell reads as. The pattern store is total (R62) and the spec gives no contents; 0x00. DESIGN
CHOICE, unsafe: log 7. -/
abbrev unlistedByte : Byte := 0

/-- The value at key `a` of a sparse list, `d` where no entry lists it. -/
def cellRead {α : Type} (d : α) : List (Nat × α) → Nat → α
  | [], _ => d
  | (k, v) :: rest, a => if k = a then v else cellRead d rest a

/-- Put `v` at key `a`, keeping the keys rising and no entry equal to the value `d` that an unlisted key reads as. -/
def cellWrite {α : Type} [DecidableEq α] (d : α) : List (Nat × α) → Nat → α → List (Nat × α)
  | [], a, v => if v = d then [] else [(a, v)]
  | (k, w) :: rest, a, v =>
    if a < k then (if v = d then (k, w) :: rest else (a, v) :: (k, w) :: rest)
    else if a = k then (if v = d then rest else (a, v) :: rest)
    else (k, w) :: cellWrite d rest a v

/-- The canonical form: keys strictly rising, no entry equal to what an unlisted key reads as. -/
abbrev cellsWf {α : Type} [DecidableEq α] (d : α) (m : List (Nat × α)) : Prop :=
  m.Pairwise (fun x y => x.1 < y.1) ∧ ∀ c ∈ m, c.2 ≠ d

/-- The canonical form of the pattern store. -/
abbrev Memory.wf (m : Memory) : Prop := cellsWf unlistedByte m

/-- The canonical form of a tile map. -/
abbrev TileMap.wf (m : TileMap) : Prop := cellsWf unlistedId m

/-- The key of map cell (col, row). -/
def mapKey (col row : Fin 32) : Nat := 32 * row.val + col.val

/-- The key of pattern byte (id, k). -/
def patternKey (id : Nat) (k : Fin 16) : Nat := 16 * id + k.val

/-- One map read: the id at (col, row) (R41, R61). -/
def TileMap.cell (m : TileMap) (col row : Fin 32) : Nat := cellRead unlistedId m (mapKey col row)

/-- One pattern read: byte k of the pattern of `id` (R41, R62). -/
def Memory.patternByte (m : Memory) (id : Nat) (k : Fin 16) : Byte := cellRead unlistedByte m (patternKey id k)

/-- `MemRead(BKG, (col,row), 1)` (R13, R41). -/
def FrameBuffer.readBkg (fb : FrameBuffer) (col row : Fin 32) : Nat := fb.bkg.cell col row

/-- `MemRead(WIN, (col,row), 1)` (R13, R41). -/
def FrameBuffer.readWin (fb : FrameBuffer) (col row : Fin 32) : Nat := fb.win.cell col row

/-- The sixteen `MemRead(PATTERN, (id,k), 1)` of one pattern fetch (R13, R41, R146). -/
def FrameBuffer.fetchPattern (fb : FrameBuffer) (id : Nat) : Vector Byte 16 :=
  Vector.ofFn fun k => fb.pattern.patternByte id k

/-- The framebuffer layer puts a tile id into a background map cell. -/
def FrameBuffer.writeBkg (fb : FrameBuffer) (col row : Fin 32) (id : Nat) : FrameBuffer :=
  { fb with bkg := cellWrite unlistedId fb.bkg (mapKey col row) id }

/-- The framebuffer layer puts a tile id into a window map cell. -/
def FrameBuffer.writeWin (fb : FrameBuffer) (col row : Fin 32) (id : Nat) : FrameBuffer :=
  { fb with win := cellWrite unlistedId fb.win (mapKey col row) id }

/-- The framebuffer layer puts a byte into the pattern store. -/
def FrameBuffer.writePattern (fb : FrameBuffer) (id : Nat) (k : Fin 16) (b : Byte) : FrameBuffer :=
  { fb with pattern := cellWrite unlistedByte fb.pattern (patternKey id k) b }

/-- What the framebuffer layer may present under the parameters `p`: canonical stores, cells within the spaces of R60, ids of
W_ID bits, and SCX, SCY, WY of W_SCR bits. -/
abbrev FrameBuffer.wf (p : Params) (fb : FrameBuffer) : Prop :=
  fb.bkg.wf ∧ fb.win.wf ∧ fb.pattern.wf
    ∧ (∀ c ∈ fb.bkg, c.1 < 1024 ∧ c.2 < 2 ^ p.wId) ∧ (∀ c ∈ fb.win, c.1 < 1024 ∧ c.2 < 2 ^ p.wId)
    ∧ (∀ c ∈ fb.pattern, c.1 < 16 * 2 ^ p.wId)
    ∧ fb.scx < 2 ^ p.wScr ∧ fb.scy < 2 ^ p.wScr ∧ fb.wy < 2 ^ p.wScr

end Sys2Proof.Machine
end

