-- ==== Sys2Proof/Machine/Operands.lean ====
section
/-! DEFINITION. The operands of the commands as the engine holds them: the operand latches (R24), the output row index and the
plane selector (R93, R100), and the packet indices (R25). -/

namespace Sys2Proof.Machine

/-- What acceptance of a command puts into OPC, ROWR, PSELR: its word's fields (R24, R39). -/
def OperandLatches.ofInstr (i : Instr) : OperandLatches := ⟨i.opcode, i.rowBits, i.pselBits⟩

/-- What acceptance of an ASM puts into LSCX, LSCY, LWY, LWIN (R24, R142). -/
def ConfigLatches.sample (fb : FrameBuffer) : ConfigLatches := ⟨fb.scx, fb.scy, fb.wy, fb.winEn⟩

/-- The byte offset of a bitplane in a pattern's byte pairs (R100). -/
def planeOffset : Plane → Fin 2
  | .plane0 => 0
  | .plane1 => 1

/-- `LASTPKT` (R27): 3 when OPC = TX1, 13 when OPC = TX2; the table gives none for another OPC. -/
def lastPacket (opc : BitVec 4) : Option Nat :=
  if opc = 3 then some 3 else if opc = 4 then some 13 else none

end Sys2Proof.Machine
end

