-- ==== Sys2Proof/Machine/Ops.lean ====
section
/-! DEFINITION. The named updates of a state and the operations every command shares: the link and timer transactions (R40,
R42), acceptance (R39), completion (R36), the raise of an error (R246) with its return (R250), and the reset event (R270). -/

namespace Sys2Proof.Machine

/-! ### Named updates -/

/-- Record a transaction (R108). -/
def State.emit (e : Event) (s : State) : State := { s with trace := s.trace ++ [e] }

/-- Write PHASE (R25). -/
def State.setPhase (p : Phase) (s : State) : State := { s with phase := p }

/-- Write PKT (R25). -/
def State.setPkt (k : BitVec 4) (s : State) : State := { s with pkt := k }

/-- Write IDX (R25). -/
def State.setIdx (m : BitVec 7) (s : State) : State := { s with idx := m }

/-- Write ATT (R25). -/
def State.setAtt (a : BitVec 4) (s : State) : State := { s with att := a }

/-- Write TXB and TXLEN (R21). -/
def State.setTx (b : Vector Byte 12) (n : Byte) (s : State) : State := { s with txb := b, txlen := n }

/-- Write RB (R20). -/
def State.setRb (b : Vector Byte 160) (s : State) : State := { s with rb := b }

/-- The link layer writes RXB (R22). -/
def State.setRxb (b : Byte) (s : State) : State := { s with rxb := b }

/-- Write the tile latches (R23). -/
def State.setTile (t : TileLatches) (s : State) : State := { s with tile := t }

/-- The link layer's side moves on (R40). -/
def State.setLink (l : LinkLayer) (s : State) : State := { s with link := l }

/-- The coordinator moves on (R224). -/
def State.setHost (h : Coordinator) (s : State) : State := { s with host := h }

/-- The host writes IE (R34, R214, R222). -/
def State.setIe (v : Nat) (s : State) : State := { s with ie := v }

/-- The host's words at the command port (R39). -/
def State.setQueue (q : List CmdWord) (s : State) : State := { s with cmdQueue := q }

/-! ### The link layer's answers (R40): free inputs, from a script first, then uninterpreted (log 2) -/

/-- The answer of the next `LinkSendCmdBuf`, and the link layer after it. -/
def LinkLayer.nextSend (l : LinkLayer) : Bool × LinkLayer :=
  match l.sendScript with
  | a :: rest => (a, { l with sendScript := rest })
  | [] => (Config.linkSendAnswer l.sendDraws, { l with sendDraws := l.sendDraws + 1 })

/-- The answer of the next `LinkReadWait`, and the link layer after it. -/
def LinkLayer.nextRead (l : LinkLayer) : Option Byte × LinkLayer :=
  match l.readScript with
  | a :: rest => (a, { l with readScript := rest })
  | [] => (Config.linkReadAnswer l.readDraws, { l with readDraws := l.readDraws + 1 })

/-- The result of the next `printer_query` (R211), and the link layer after it. -/
def LinkLayer.nextQuery (l : LinkLayer) : Byte × LinkLayer :=
  match l.queryScript with
  | a :: rest => (a, { l with queryScript := rest })
  | [] => (Config.queryAnswer l.queryDraws, { l with queryDraws := l.queryDraws + 1 })

/-! ### Link and timer transactions -/

/-- The bytes one `LinkSendCmdBuf` transmits after its command: TXB[0..TXLEN-1] (R13, R21). -/
def State.txPayload (s : State) : List Byte := s.txb.toList.take s.txlen.toNat

/-- `LinkSendCmdBuf(cmd) -> Bool` (R13, R40, R108): the answer, and the state with the transaction recorded. -/
def linkSendCmdBuf (cmd : Byte) (s : State) : Bool × State :=
  (s.link.nextSend.1,
    (s.setLink s.link.nextSend.2).emit (.cmdBuf cmd s.txlen s.txPayload s.link.nextSend.1))

/-- What the link layer does to RXB in a read: on arrival it writes the byte, on a time-out it writes nothing (R22). -/
def State.receive (a : Option Byte) (s : State) : State := s.setRxb (a.getD s.rxb)

/-- `LinkReadWait(ms)` (R13, R40, R108). The commands discard the answer (R171, R243), so only the state is returned; the
event records whether a byte arrived. -/
def linkReadWait (ms : Nat) (s : State) : State :=
  ((s.setLink s.link.nextRead.2).receive s.link.nextRead.1).emit (.readWait ms s.link.nextRead.1.isSome)

/-- `LinkSendByte(b)` (R13, R40, R108). -/
def linkSendByte (b : Byte) (s : State) : State := s.emit (.sendByte b)

/-- `Sleep(ms)` (R13, R42, R108): it always ends (R283). -/
def sleepMs (ms : Nat) (s : State) : State := s.emit (.sleep ms)

/-! ### Acceptance, completion, errors -/

/-- Acceptance of a legal command (R39): OPC, ROWR, PSELR take its fields, STATUS becomes BUSY alone, EINFO 0, and for ASM the
configuration latches sample SCX, SCY, WY, WIN_EN (R24). The same step is the whole of the return from an error (R250):
DONE, OK, ERR and EINFO are cleared and nothing is restored. -/
def accept (i : Instr) (s : State) : State :=
  { s with
    ops := OperandLatches.ofInstr i
    status := Status.accepted
    einfo := 0
    cfg := match i with
      | .asm _ _ => ConfigLatches.sample s.fb
      | .clr => s.cfg
      | .tx1 => s.cfg
      | .tx2 _ => s.cfg }

/-- `complete(ok)` (R36): BUSY <- 0, DONE <- 1, OK <- ok, ERR <- 0, PHASE <- IDLE. -/
def complete (ok : Bool) (s : State) : State := { s with status := Status.completed ok, phase := .idle }

/-- `raise E(info)` (R246), the one way an error is taken: STATUS.BUSY <- 0, DONE <- 1, OK <- 0, ERR <- the code of E,
EINFO <- info, PHASE <- IDLE. Nothing is saved elsewhere and all other state stays as it is. -/
def raise (kind : ErrorKind) (info : BitVec 16) (s : State) : State :=
  { s with status := Status.raised kind, einfo := info, phase := .idle }

/-- `raise PacketSendTimeout(PKT)` (R37, R242): EINFO <- zext_16(PKT). -/
def raiseTimeout (s : State) : State := raise .packetSendTimeout (s.pkt.setWidth 16) s

/-- `raise IllegalCommand(word)` (R39, R244): EINFO <- the refused word. -/
def raiseIllegal (word : CmdWord) (s : State) : State := raise .illegalCommand word s

/-! ### The reset event -/

/-- One reset event (R270): every register of the CORE takes the value of R45, a running command is abandoned, and nothing
outside the CORE changes. The counter makes the unspecified values of each reset their own draw (log 5); the line is released
(log 17). -/
def resetEvent (s : State) : State :=
  { s.drawUnspecified (s.resets + 1) with resets := s.resets + 1, resetLine := false }

end Sys2Proof.Machine
end

