-- ==== Sys2Proof/Machine/Transformer.lean ====
section
/-! DEFINITION. The tile transformer C1 (40_tile_transformer.md): bitplane mux, dither engine and column-major rotator, as the
two pure functions `xformPlane` (R124) and `xformDither` (R125), each in the order of its pseudocode. -/

namespace Sys2Proof.Machine

/-- The indices 0..7 in ascending order: the loops `for i in 0..7` of R124 and R125. -/
def octet : List (Fin 8) := [0, 1, 2, 3, 4, 5, 6, 7]

/-- A source pattern P[0..15] (R64). -/
abbrev Pattern := Vector Byte 16

/-- A printer tile O[0..7] (R65). -/
abbrev PrinterTile := Vector Byte 8

/-- `for i in 0..7: OUT[i] <- 0x00` (R124, R125). -/
def blankTile : PrinterTile := Vector.replicate 8 0

/-- `1 << (7-n)` on a byte (R127). -/
def bitFromTop (n : Fin 8) : Byte := 1#8 <<< (7 - n.val)

/-- `OUT[i] <- OUT[i] | (1 << (7-j))` (R124, R125). -/
def setDot (out : PrinterTile) (i j : Fin 8) : PrinterTile := out.set i.val (out[i.val] ||| bitFromTop j)

/-- The row byte that stage 1 selects in single-plane mode: P[2j+p] (R121). -/
def planeRow (p : Pattern) (plane : Plane) (j : Fin 8) : Byte :=
  p[2 * j.val + (planeOffset plane).val]

/-- `XformPlane(P, p)`, the source's `convert_tile` (R124). -/
def xformPlane (p : Pattern) (plane : Plane) : PrinterTile :=
  octet.foldl (fun out j =>
    octet.foldl (fun out i =>
      if (planeRow p plane j).getLsbD (7 - i.val) = true then setDot out i j else out) out) blankTile

/-- What one source row contributes in dithered mode: the inner loop of R125 under the mask `m`. -/
def ditherRow (p : Pattern) (m : Byte) (out : PrinterTile) (j : Fin 8) : PrinterTile :=
  octet.foldl (fun out i =>
    if planeRow p .plane1 j &&& bitFromTop i ≠ 0 then setDot out i j
    else if (planeRow p .plane0 j &&& m) &&& bitFromTop i ≠ 0 then setDot out i j
    else out) out

/-- The loop over the source rows of R125: OUT and DMASK after all eight rows, DMASK toggling after each. -/
def ditherLoop (p : Pattern) : PrinterTile × Byte :=
  octet.foldl (fun acc j => (ditherRow p acc.2 acc.1 j, acc.2 ^^^ 0xFF#8)) (blankTile, Config.ditherM0)

/-- `XformDither(P)`, the source's `convert_tile_dithered` (R125). -/
def xformDither (p : Pattern) : PrinterTile := (ditherLoop p).1

/-- The transformer under a plane selector (R120, R147): BOTH is dithered mode, the others single-plane mode. -/
def xform (p : Pattern) : PlaneSel → PrinterTile
  | .plane0 => xformPlane p .plane0
  | .plane1 => xformPlane p .plane1
  | .both => xformDither p

/-- What DMASK holds when a tile is done: 0xAA is loaded at the start of every tile (R23), and the dithered mode's eight
toggles leave it there (R125). -/
def dmaskAfter (p : Pattern) : PlaneSel → Byte
  | .plane0 => Config.ditherM0
  | .plane1 => Config.ditherM0
  | .both => (ditherLoop p).2

/-- `Rot(X_0 .. X_7)` (R123), the rotator as a function of its own: bit 7-j of byte i is bit 7-i of X_j. R126 gives both
operations in terms of it. -/
def rot (x : PrinterTile) : PrinterTile :=
  octet.foldl (fun out j =>
    octet.foldl (fun out i => if x[j.val].getLsbD (7 - i.val) = true then setDot out i j else out) out) blankTile

/-- The dither mask M_j of source row j (R122): 0xAA for even j, 0x55 for odd j. -/
def ditherMask (j : Fin 8) : Byte := if j.val % 2 = 0 then 0xAA#8 else 0x55#8

end Sys2Proof.Machine
end

