-- ==== Sys2Proof/Machine/RowAssembler.lean ====
section
/-! DEFINITION. The row assembler C2 with its tile address iterator, and the commands CLR and ASM (41_row_assembler.md). -/

namespace Sys2Proof.Machine

/-- `for n in 0..159: RB[n] <- 0x00` (R141). -/
def clearRow (s : State) : State := s.setRb (Vector.replicate 160 0)

/-- The window test (R143): `(r * 8 >= LWY) and (LWIN = 1)`, on naturals. -/
def usingWindow (r : Nat) (c : ConfigLatches) : Bool := decide (c.lwy ≤ r * 8) && c.lwin

/-- The map cell's coordinate `n mod 32` (R144, R145). -/
def mod32 (n : Nat) : Fin 32 := Fin.ofNat 32 n

/-- The tile id of visible column t in output row r: from the window map (R145) or the background map (R144). -/
def sourceTile (fb : FrameBuffer) (c : ConfigLatches) (r t : Nat) : Nat :=
  if usingWindow r c = true then fb.readWin (mod32 t) (mod32 (r - c.lwy / 8))
  else fb.readBkg (mod32 (t + c.lscx / 8)) (mod32 (r + c.lscy / 8))

/-- `for i in 0..7: RB[8*t + i] <- OUT[i]` (R147). -/
def storeSlot (b : Vector Byte 160) (t : Fin 20) (out : PrinterTile) : Vector Byte 160 :=
  octet.foldl (fun b i => b.set (8 * t.val + i.val) out[i.val]) b

/-- One tile of R142: the id, the 16-byte pattern, the transform and the store, through the tile latches of R23. -/
def assembleTile (r : Nat) (psel : PlaneSel) (s : State) (t : Fin 20) : State :=
  let id := sourceTile s.fb s.cfg r t.val
  let pat := s.fb.fetchPattern id
  let out := xform pat psel
  (s.setTile
    { tid := id, pat := pat, out := out, dmask := dmaskAfter pat psel, tcol := BitVec.ofNat 5 t.val }).setRb
    (storeSlot s.rb t out)

/-- The loop `for t in 0..19` of R142. -/
def assembleRow (r : Nat) (psel : PlaneSel) (s : State) : State :=
  (List.finRange 20).foldl (assembleTile r psel) s

/-- CLR (R141): accepted, RB cleared, completed. -/
def execClr (s : State) : Host.Outcome State Fault Refusal :=
  .next (complete true (clearRow (accept .clr s)))

/-- ASM r, psel (R142): accepted (which samples SCX, SCY, WY, WIN_EN), row r assembled, completed. -/
def execAsm (row : BitVec 5) (psel : PlaneSel) (s : State) : Host.Outcome State Fault Refusal :=
  .next (complete true (assembleRow row.toNat psel (accept (.asm row psel) s)))

end Sys2Proof.Machine
end

