-- ==== Sys2Proof/Machine/Transmitter.lean ====
section
/-! DEFINITION. What both transmitters share: the load of a data packet (R162, R192), the load of the terminator packet
(R193), the retry wrapper (R163), and the packet loop with its failure exit (R168, R195). -/

namespace Sys2Proof.Machine

/-- Load data packet k (R162, R192): PKT <- k, TXB[n] <- RB[12k+n] for n in 0..11, TXLEN <- 12. The index 12k+n stays below
156 (R198). -/
def loadPacket (k : Fin 13) (s : State) : State :=
  (s.setPkt (BitVec.ofNat 4 k.val)).setTx (Vector.ofFn fun n : Fin 12 => s.rb[12 * k.val + n.val]) 12

/-- TXB with the terminator packet of a plane loaded (R193): bytes 0..3 are RB[156..159], byte 4 is CR, for plane 1 byte 5 is
LF; the bytes at and beyond TXLEN stay. -/
def terminatorBytes (plane : Plane) (s : State) : Vector Byte 12 :=
  let four := (((s.txb.set 0 s.rb[156]).set 1 s.rb[157]).set 2 s.rb[158]).set 3 s.rb[159]
  match plane with
  | .plane0 => four.set 4 Config.cr
  | .plane1 => (four.set 4 Config.cr).set 5 Config.lf

/-- TXLEN of the terminator packet (R193): 5 for plane 0, 6 for plane 1. -/
def terminatorLength : Plane → Byte
  | .plane0 => 5
  | .plane1 => 6

/-- Load packet 13 (R191, R193). -/
def loadTerminator (plane : Plane) (s : State) : State :=
  (s.setPkt 13).setTx (terminatorBytes plane s) (terminatorLength plane)

/-- The attempts of the retry wrapper from attempt `11 - left` on (R163): the loop `for a in 1..10` with `left` attempts to
go. It stops at the first success; after a failure it sleeps 1 ms if another attempt follows, or if the parameter
RETRY_SLEEP_AFTER_LAST says so. -/
def retryFrom : Nat → State → Bool × State
  | 0, s => (false, s)
  | left + 1, s =>
    let r := linkSendCmdBuf s.params.cmdPrintSendBytes (s.setAtt (BitVec.ofNat 4 (Config.retryMax - left)))
    if r.1 = true then (true, r.2)
    else if left ≠ 0 ∨ r.2.params.retrySleepAfterLast = true then retryFrom left (sleepMs Config.tRetry r.2)
    else (false, r.2)

/-- `SendPacketRetry() -> Bool` (R163): at most RETRY_MAX = 10 attempts. -/
def sendPacketRetry (s : State) : Bool × State := retryFrom Config.retryMax s

/-- The data packets `ks` in order, each loaded once and sent through the retry wrapper; on exhaustion
`raise PacketSendTimeout(k)` and nothing more (R161, R168, R191, R195). The Boolean says whether all were sent. -/
def sendPackets : List (Fin 13) → State → Bool × State
  | [], s => (true, s)
  | k :: ks, s =>
    let r := sendPacketRetry (loadPacket k s)
    if r.1 = true then sendPackets ks r.2 else (false, raiseTimeout r.2)

end Sys2Proof.Machine
end

