-- ==== Sys2Proof/Machine/TxSinglePass.lean ====
section
/-! DEFINITION. The single-pass row transmitter C3 and its command TX1 (42_tx_single_pass.md). -/

namespace Sys2Proof.Machine

/-- The four data packets of TX1 (R162). -/
def tx1Packets : List (Fin 13) := [0, 1, 2, 3]

/-- Iteration m of the bulk phase (R164): a ready wait of 100 ms, then RB[48+m], whatever the wait answered. IDX holds m
(R25). -/
def bulkByte (s : State) (m : Fin 112) : State :=
  let w := linkReadWait Config.tReady (s.setIdx (BitVec.ofNat 7 m.val))
  linkSendByte w.rb[48 + m.val] w

/-- The bulk phase, 112 bytes (R164). -/
def bulkPhase (s : State) : State := (List.finRange 112).foldl bulkByte s

/-- Iteration m of the trailing unknown phase (R165): a ready wait of 100 ms, then 0x00. -/
def tailByte (s : State) (m : Fin 6) : State :=
  linkSendByte Config.tailByte (linkReadWait Config.tReady (s.setIdx (BitVec.ofNat 7 m.val)))

/-- The trailing unknown phase, 6 bytes (R165). -/
def tailPhase (s : State) : State := (List.finRange 6).foldl tailByte s

/-- The terminator phase, two reads of 200 ms, and the post-row sleep of 1000 ms (R166, R167). -/
def closeRow (s : State) : State :=
  sleepMs Config.tRow (linkReadWait Config.tAck (linkReadWait Config.tAck s))

/-- TX1 from its acceptance on (R161): the packet phase, and if no packet failed, the bulk, tail, terminator and pacing phases
and completion. -/
def runTx1 (s : State) : State :=
  let r := sendPackets tx1Packets s
  if r.1 = true then complete true (closeRow (tailPhase (bulkPhase r.2))) else r.2

/-- TX1 (R161). -/
def execTx1 (s : State) : Host.Outcome State Fault Refusal := .next (runTx1 (accept .tx1 s))

end Sys2Proof.Machine
end

