-- ==== Sys2Proof/Machine/TxTwoPass.lean ====
section
/-! DEFINITION. The two-pass row transmitter C4 and its command TX2 (43_tx_two_pass.md). -/

namespace Sys2Proof.Machine

/-- TX2 p from its acceptance on (R191): packets 0..12, the terminator packet 13 of plane p, one read of 200 ms whose answer
is discarded, and completion; a packet that exhausts its retries ends the command (R195). -/
def runTx2 (plane : Plane) (s : State) : State :=
  let r := sendPackets (List.finRange 13) s
  if r.1 = true then
    let t := sendPacketRetry (loadTerminator plane r.2)
    if t.1 = true then complete true (linkReadWait Config.tAck t.2) else raiseTimeout t.2
  else r.2

/-- TX2 p (R191). -/
def execTx2 (plane : Plane) (s : State) : Host.Outcome State Fault Refusal :=
  .next (runTx2 plane (accept (.tx2 plane) s))

end Sys2Proof.Machine
end

