-- ==== Sys2Proof/Machine/Engine.lean ====
section
/-! DEFINITION. The engine's sequencing state machine, the small-step table R27: one row is one step, with at most one link or
timer transaction. In row grain the machine's `step` goes by this table from acceptance to completion. The sequential
pseudocode, which `exec` follows, is the statement of the source and wins where the two differ (90_conflicts.md C13); that they
do not differ is `Obligations.SequencingTableRunsThePseudocode`. -/

namespace Sys2Proof.Machine

/-- Where acceptance of a command sends PHASE (R27, row IDLE). -/
def firstPhase : Instr → Phase
  | .clr => .clrRun
  | .asm _ _ => .asmRun
  | .tx1 => .pktLoad
  | .tx2 _ => .pktLoad

/-- Where acceptance of a command leaves PKT (R27, row IDLE): 0 for TX1 and TX2, unchanged for the others. -/
def firstPkt : Instr → BitVec 4 → BitVec 4
  | .clr, p => p
  | .asm _ _, p => p
  | .tx1, _ => 0
  | .tx2 _, _ => 0

/-- The row IDLE of R27 for a presented word: accept it, or `raise IllegalCommand(word)`. -/
def acceptWord (w : CmdWord) (s : State) : State :=
  match decode w with
  | .ok i => ((accept i s).setPkt (firstPkt i s.pkt)).setPhase (firstPhase i)
  | .error _ => raiseIllegal w s

/-- The row PKT_LOAD's load of packet PKT (R27): R162 for TX1, R192 and R193 for TX2; `none` where no rule has a packet of
that number. -/
def loadCurrent (s : State) : Option State :=
  if s.ops.opc = 3 then
    if s.pkt.toNat ≤ 3 then some (loadPacket (Fin.ofNat 13 s.pkt.toNat) s) else none
  else if s.ops.opc = 4 then
    if s.pkt.toNat ≤ 12 then some (loadPacket (Fin.ofNat 13 s.pkt.toNat) s)
    else if s.pkt.toNat = 13 then (Plane.ofBits s.ops.pselr).map fun plane => loadTerminator plane s
    else none
  else none

/-- What follows a packet that was answered (R27, row PKT_SEND, `ok`): the next packet, or the phase after the last one. -/
def afterPacket (s : State) : Option State :=
  match lastPacket s.ops.opc with
  | none => none
  | some last =>
    if s.pkt.toNat < last then some ((s.setPkt (s.pkt + 1)).setPhase .pktLoad)
    else if s.pkt.toNat = last then
      if s.ops.opc = 3 then some ((s.setIdx 0).setPhase .bulkWait) else some (s.setPhase .ackCr)
    else none

/-- What follows a packet that was not answered (R27, row PKT_SEND, `not ok`). -/
def afterFailedAttempt (s : State) : Option State :=
  if s.att.toNat < 10 ∨ s.params.retrySleepAfterLast = true then some (s.setPhase .pktBackoff)
  else if s.att.toNat = 10 then some (raiseTimeout s)
  else none

/-- The row PKT_BACKOFF (R27), after its sleep. -/
def afterBackoff (s : State) : Option State :=
  if s.att.toNat < 10 then some ((s.setAtt (s.att + 1)).setPhase .pktSend)
  else if s.att.toNat = 10 then some (raiseTimeout s)
  else none

/-- The row BULK_EMIT (R27). -/
def bulkEmit (s : State) : Option State :=
  if h : s.idx.toNat < 112 then
    let t := linkSendByte (s.rb[48 + s.idx.toNat]'(by omega)) s
    if s.idx.toNat < 111 then some ((t.setIdx (s.idx + 1)).setPhase .bulkWait)
    else some ((t.setIdx 0).setPhase .tailWait)
  else none

/-- The row TAIL_EMIT (R27). -/
def tailEmit (s : State) : Option State :=
  let t := linkSendByte Config.tailByte s
  if s.idx.toNat < 5 then some ((t.setIdx (s.idx + 1)).setPhase .tailWait)
  else if s.idx.toNat = 5 then some (t.setPhase .ack1)
  else none

/-- The row ASM_RUN (R27), from the latches. -/
def asmRun (s : State) : Option State :=
  (PlaneSel.ofBits s.ops.pselr).map fun psel => complete true (assembleRow s.ops.rowr.toNat psel s)

/-- The row PKT_SEND (R27): one `LinkSendCmdBuf`. -/
def pktSend (s : State) : Option State :=
  let r := linkSendCmdBuf s.params.cmdPrintSendBytes s
  if r.1 = true then afterPacket r.2 else afterFailedAttempt r.2

/-- One step of the engine, a row of R27; `none` where the table has no row for the state (log 10). In IDLE with no word
presented the engine waits. -/
def engineRow (s : State) : Option State :=
  match s.phase with
  | .idle =>
    match s.cmdQueue with
    | [] => some s
    | w :: rest => some (acceptWord w (s.setQueue rest))
  | .clrRun => some (complete true (clearRow s))
  | .asmRun => asmRun s
  | .pktLoad => (loadCurrent s).map fun t => (t.setAtt 1).setPhase .pktSend
  | .pktSend => pktSend s
  | .pktBackoff => afterBackoff (sleepMs Config.tRetry s)
  | .bulkWait => some ((linkReadWait Config.tReady s).setPhase .bulkEmit)
  | .bulkEmit => bulkEmit s
  | .tailWait => some ((linkReadWait Config.tReady s).setPhase .tailEmit)
  | .tailEmit => tailEmit s
  | .ack1 => some ((linkReadWait Config.tAck s).setPhase .ack2)
  | .ack2 => some ((linkReadWait Config.tAck s).setPhase .pace)
  | .pace => some (complete true (sleepMs Config.tRow s))
  | .ackCr => some (complete true (linkReadWait Config.tAck s))

/-- One step of the engine as an outcome: the table's row, or the fault of a state it does not cover (log 10). -/
def engineStep (s : State) : Host.Outcome State Fault Refusal :=
  match engineRow s with
  | some t => .next t
  | none => .fault .noSequencingRow

end Sys2Proof.Machine
end

