-- ==== Sys2Proof/Machine/Coordinator.lean ====
section
/-! DEFINITION. The host's coordinator C5 as the state machine R224: the agent that issues command words, polls STATUS, and
masks and restores IE (44_job_sequencer.md). One call of `hostStep` is one move of the host. -/

namespace Sys2Proof.Machine

/-- `MapQuery` (R101, R212): 0 FAIL, 1 and 3 OK_1PASS, 2 OK_2PASS, 4 to 255 FAIL. -/
def mapQuery (q : Byte) : PrinterType :=
  match q.toNat with
  | 1 => .ok1Pass
  | 2 => .ok2Pass
  | 3 => .ok1Pass
  | _ => .fail

/-- `IE & ~IE_VBL_MASK` (R214) on naturals: the bits of the mask cleared, every other bit as it was. -/
def maskVbl (ie mask : Nat) : Nat := ie ^^^ (ie &&& mask)

/-- The command words of `BlankRow(type)` (R210, R216, R217). -/
def blankRowWords : PrinterType → List CmdWord
  | .fail => []
  | .ok1Pass => Pseudo.blankRow1.words
  | .ok2Pass => Pseudo.blankRow2.words

/-- The command words of `Row(type, r)` (R210, R218, R219). -/
def rowWords (r : Nat) : PrinterType → List CmdWord
  | .fail => []
  | .ok1Pass => (Pseudo.row1 (BitVec.ofNat 5 r)).words
  | .ok2Pass => (Pseudo.row2 (BitVec.ofNat 5 r)).words

/-- The move out of a row whose commands have all succeeded (R224, column "On success"). -/
def Coordinator.rowDone (n : Nat) (h : Coordinator) : Coordinator :=
  match h.job with
  | .preamble => { h with job := .body 0, todo := rowWords 0 h.printer }
  | .body r =>
    if r < 17 then { h with job := .body (r + 1), todo := rowWords (r + 1) h.printer }
    else { h with job := .trailer 1, todo := blankRowWords h.printer }
  | .trailer k =>
    if k < n then { h with job := .trailer (k + 1), todo := blankRowWords h.printer }
    else { h with job := .epilogue, ok := true }
  | .idle => h
  | .querying => h
  | .epilogue => h

/-- The QUERYING move (R211 to R214, R224): one query; FAIL ends the job with false and touches nothing else; otherwise IE is
saved and masked and the leading blank row begins. -/
def queryPrinter (s : State) : State :=
  let q := s.link.nextQuery
  let s1 := s.setLink q.2
  match mapQuery q.1 with
  | .fail => s1.setHost { s.host with job := .idle, printer := .fail, result := some false }
  | .ok1Pass =>
    (s1.setIe (maskVbl s.ie s.params.ieVblMask)).setHost
      { s.host with job := .preamble, printer := .ok1Pass, ieSaved := s.ie, todo := blankRowWords .ok1Pass, waiting := false, ok := false }
  | .ok2Pass =>
    (s1.setIe (maskVbl s.ie s.params.ieVblMask)).setHost
      { s.host with job := .preamble, printer := .ok2Pass, ieSaved := s.ie, todo := blankRowWords .ok2Pass, waiting := false, ok := false }

/-- A move within a row (R209, R224): while a command is outstanding, wait for STATUS.DONE and take STATUS.OK, a failure going
to the epilogue; otherwise present the next word, or leave the row when none is left. -/
def rowMove (s : State) : State :=
  if s.host.waiting = true then
    if s.status.done = true then
      if s.status.ok = true then s.setHost { s.host with waiting := false }
      else s.setHost { s.host with job := .epilogue, todo := [], waiting := false, ok := false }
    else s
  else
    match s.host.todo with
    | w :: rest => (s.setQueue (s.cmdQueue ++ [w])).setHost { s.host with todo := rest, waiting := true }
    | [] => s.setHost (s.host.rowDone s.params.nTrailer)

/-- One move of the coordinator (R224); in its IDLE state it starts a job on request and otherwise does nothing. -/
def hostStep (s : State) : State :=
  match s.host.job with
  | .idle => if s.host.request = true then s.setHost { s.host with job := .querying, request := false } else s
  | .querying => queryPrinter s
  | .preamble => rowMove s
  | .body _ => rowMove s
  | .trailer _ => rowMove s
  | .epilogue => (s.setIe s.host.ieSaved).setHost { s.host with job := .idle, result := some s.host.ok }

end Sys2Proof.Machine
end

