-- ==== Sys2Proof/Machine/Dispatch.lean ====
section
/-! DEFINITION. One arm per command: the meaning of a command is its whole effect, from its acceptance in IDLE to its
completion or its error (R39, R95). -/

namespace Sys2Proof.Machine

def exec (i : Instr) (s : State) : Host.Outcome State Fault Refusal :=
  match i with
  | .clr => Sys2Proof.Machine.execClr s
  | .asm row psel => Sys2Proof.Machine.execAsm row psel s
  | .tx1 => Sys2Proof.Machine.execTx1 s
  | .tx2 plane => Sys2Proof.Machine.execTx2 plane s

end Sys2Proof.Machine
end

