-- ==== Sys2Proof/Machine/Job.lean ====
section
/-! DEFINITION. The command port (R39): a presented word accepted and run; and the host's `issue` (R209) and `PRINT_SCREEN`
(R210) as sequential code. -/

namespace Sys2Proof.Machine

/-- A presented command word in IDLE (R39): a legal one is executed, an illegal one raises IllegalCommand(word) (R244). -/
def execWord (w : CmdWord) (s : State) : Host.Outcome State Fault Refusal :=
  match decode w with
  | .ok i => exec i s
  | .error _ => .next (raiseIllegal w s)

/-- `issue(cw) -> Bool` (R209): the word is accepted and run, and STATUS.OK is the result. No command of this model stops
without a next state; the last two cases are there because an outcome has three. -/
def issue (w : CmdWord) (s : State) : Bool × State :=
  match execWord w s with
  | .next t => (t.status.ok, t)
  | .fault _ => (false, s)
  | .refused _ => (false, s)

/-- Issue words in order while they succeed (R98: "a command is issued only if every earlier transmit command of the expansion
succeeded"; CLR and ASM cannot fail, R140). -/
def issueAll : List CmdWord → State → Bool × State
  | [], s => (true, s)
  | w :: ws, s =>
    let r := issue w s
    if r.1 = true then issueAll ws r.2 else (false, r.2)

/-- Rows in order while they succeed: the loops of R210. -/
def issueRows : List (List CmdWord) → State → Bool × State
  | [], s => (true, s)
  | row :: rows, s =>
    let r := issueAll row s
    if r.1 = true then issueRows rows r.2 else (false, r.2)

/-- The rows of a job (R210): one leading blank row, output rows 0 to 17, N_TRAILER trailing blank rows. -/
def jobRows (t : PrinterType) (nTrailer : Nat) : List (List CmdWord) :=
  blankRowWords t :: ((List.range 18).map fun r => rowWords r t) ++ List.replicate nTrailer (blankRowWords t)

/-- `PRINT_SCREEN()` (R210): query, map, stop on FAIL; save and mask IE; the rows; restore IE; the result. -/
def printScreen (s : State) : Bool × State :=
  let q := s.link.nextQuery
  let s1 := s.setLink q.2
  match mapQuery q.1 with
  | .fail => (false, s1)
  | .ok1Pass =>
    let r := issueRows (jobRows .ok1Pass s.params.nTrailer) (s1.setIe (maskVbl s.ie s.params.ieVblMask))
    (r.1, r.2.setIe s.ie)
  | .ok2Pass =>
    let r := issueRows (jobRows .ok2Pass s.params.nTrailer) (s1.setIe (maskVbl s.ie s.params.ieVblMask))
    (r.1, r.2.setIe s.ie)

end Sys2Proof.Machine
end

