-- ==== Sys2Proof/Machine/Step.lean ====
section
/-! DEFINITION. One step of the machine, and the host's way of placing an instruction where the next step fetches it. -/

namespace Sys2Proof.Machine

/-- One step. The agents move one at a time (R9), in this order: a reset event (R270); a running engine, one row of R27; in
IDLE, a presented command word (R39); with no word presented, the host (R209, R224), whose move is nothing when it has no job.
In row grain, which State.reset has, the idle engine takes the row IDLE of R27: it accepts the word, and the rows that follow
are the steps that follow. In command grain it runs the whole command that the word decodes to. Log 1, log 9. -/
def step (s : State) : Host.Outcome State Fault Refusal :=
  if s.resetLine = true then .next (resetEvent s)
  else if s.phase ≠ .idle then engineStep s
  else
    match s.cmdQueue with
    | w :: rest =>
      match s.grain with
      | .row => engineStep s
      | .command => execWord w (s.setQueue rest)
    | [] => .next (hostStep s)

/-- The state with a command word presented to the idle engine ahead of any other, in command grain, so that the next step
accepts it and runs the whole of it: the machine fetches at its command port and nowhere else (R25, R39, R271). Log 1,
log 19. -/
def State.withFetchWord (s : State) (nbits w : Nat) : State :=
  { s with resetLine := false, phase := .idle, grain := .command, cmdQueue := wordOfTable nbits w :: s.cmdQueue }

end Sys2Proof.Machine
end

