-- ==== Sys2Proof/Safety.lean ====
section
/-! DEFINITION. The terms in which claims speak of a run: the link layer's coming answers, the transactions a transmit command
makes for them, the payload byte string of a trace (R108), the parts of the state a command leaves alone, and the invariant of
the machine. -/

namespace Sys2Proof.Machine

/-! ### The link layer's coming answers -/

/-- The answer that the n-th `LinkSendCmdBuf` from now on will get. -/
def LinkLayer.sendAnswer (l : LinkLayer) (n : Nat) : Bool :=
  match l.sendScript[n]? with
  | some a => a
  | none => Config.linkSendAnswer (l.sendDraws + (n - l.sendScript.length))

/-- The answer that the n-th `LinkReadWait` from now on will get. -/
def LinkLayer.readAnswer (l : LinkLayer) (n : Nat) : Option Byte :=
  match l.readScript[n]? with
  | some a => a
  | none => Config.linkReadAnswer (l.readDraws + (n - l.readScript.length))

/-- Whether the n-th `LinkReadWait` from now on will find a byte. -/
def State.arrives (s : State) (n : Nat) : Bool := (s.link.readAnswer n).isSome

/-- The coming answers begin with the list `as`. -/
def State.sendsAnswered (s : State) (as : List Bool) : Prop :=
  (List.range as.length).map s.link.sendAnswer = as

/-- The answers to one packet that fails `f` times and then succeeds. -/
def failsThenSucceeds (f : Nat) : List Bool := List.replicate f false ++ [true]

/-- The answers to packets of which the k-th fails `fs[k]` times and then succeeds. -/
def packetAnswers (fs : List Nat) : List Bool := fs.flatMap failsThenSucceeds

/-- The packets' failures stay within the retry wrapper's ten attempts (R163). -/
def withinRetries (fs : List Nat) : Prop := ∀ f ∈ fs, f ≤ 9

/-! ### The transactions of a transmit command -/

/-- One packet that fails `f` times and then succeeds: `f` failed attempts each followed by a sleep of 1 ms, then the
successful one (R163). -/
def packetTrace (cmd len : Byte) (data : List Byte) (f : Nat) : List Event :=
  (List.replicate f [Event.cmdBuf cmd len data false, Event.sleep 1]).flatten ++ [Event.cmdBuf cmd len data true]

/-- One packet that exhausts the retry wrapper: ten failed attempts with a sleep between them, and one after the last exactly
when RETRY_SLEEP_AFTER_LAST (R163). -/
def exhaustedTrace (cmd len : Byte) (data : List Byte) (sleepAfterLast : Bool) : List Event :=
  (List.replicate 9 [Event.cmdBuf cmd len data false, Event.sleep 1]).flatten
    ++ [Event.cmdBuf cmd len data false] ++ (if sleepAfterLast then [Event.sleep 1] else [])

/-- The twelve bytes of data packet k: RB[12k .. 12k+11] (R104, R105). -/
def packetData (rb : Vector Byte 160) (k : Nat) : List Byte := (rb.toList.drop (12 * k)).take 12

/-- The transmitted bytes of the terminator packet: RB[156..159], CR, and LF for plane 1 (R105). -/
def terminatorData (rb : Vector Byte 160) : Plane → List Byte
  | .plane0 => rb.toList.drop 156 ++ [0x0D]
  | .plane1 => rb.toList.drop 156 ++ [0x0D, 0x0A]

/-- Data packets `first`, `first + 1`, ..., failing `fs[0]`, `fs[1]`, ... times before they succeed. -/
def dataTrace (cmd : Byte) (rb : Vector Byte 160) : Nat → List Nat → List Event
  | _, [] => []
  | first, f :: fs => packetTrace cmd 12 (packetData rb first) f ++ dataTrace cmd rb (first + 1) fs

/-- The bulk phase of TX1 (R164): 112 ready waits, each followed by its byte of RB. -/
def bulkTrace (arrived : Nat → Bool) (rb : Vector Byte 160) : List Event :=
  (List.finRange 112).flatMap fun m => [Event.readWait 100 (arrived m.val), Event.sendByte rb[48 + m.val]]

/-- The trailing unknown phase of TX1 (R165): six ready waits, each followed by 0x00. -/
def tailTrace (arrived : Nat → Bool) : List Event :=
  (List.finRange 6).flatMap fun m => [Event.readWait 100 (arrived (112 + m.val)), Event.sendByte 0x00]

/-- The terminator phase and the pacing of TX1 (R166, R167). -/
def closeTrace (arrived : Nat → Bool) : List Event :=
  [Event.readWait 200 (arrived 118), Event.readWait 200 (arrived 119), Event.sleep 1000]

/-! ### Payload -/

/-- The payload bytes of one event (R108): the data of a successful `CmdBuf`, the byte of a `SendByte`. -/
def Event.payload : Event → List Byte
  | .cmdBuf _ _ data ok => if ok then data else []
  | .readWait _ _ => []
  | .sendByte b => [b]
  | .sleep _ => []

/-- The payload byte string of a trace (R108). -/
def payload (es : List Event) : List Byte := es.flatMap Event.payload

/-- An event without what the link layer answered to a read: the request it records. -/
def Event.request : Event → Event
  | .cmdBuf cmd len data ok => .cmdBuf cmd len data ok
  | .readWait ms _ => .readWait ms false
  | .sendByte b => .sendByte b
  | .sleep ms => .sleep ms

/-! ### What a command leaves alone -/

/-- Everything that is not an engine register, not the link layer's and not the trace: the parameters, the framebuffer with
its level inputs, IE, the command port, the coordinator, the reset input and the grain. -/
def State.sameSurroundings (s t : State) : Prop :=
  t.params = s.params ∧ t.fb = s.fb ∧ t.ie = s.ie ∧ t.cmdQueue = s.cmdQueue ∧ t.host = s.host
    ∧ t.resetLine = s.resetLine ∧ t.resets = s.resets ∧ t.grain = s.grain

/-- What a transmit command leaves alone (R169, R196): RB, the tile latches, the configuration latches, and the
surroundings. -/
def State.sameForTransmit (s t : State) : Prop :=
  t.rb = s.rb ∧ t.tile = s.tile ∧ t.cfg = s.cfg ∧ s.sameSurroundings t

/-- What the row assembler's commands leave alone: the tx buffer, the receive slot, the counters, the trace, the link layer,
and the surroundings. -/
def State.sameForAssembly (s t : State) : Prop :=
  t.txb = s.txb ∧ t.txlen = s.txlen ∧ t.rxb = s.rxb ∧ t.pkt = s.pkt ∧ t.idx = s.idx ∧ t.att = s.att
    ∧ t.trace = s.trace ∧ t.link = s.link ∧ s.sameSurroundings t

/-- The registers a successful command leaves as its status (R36): STATUS = DONE and OK, EINFO = 0, PHASE = IDLE, and the
operand latches of the command (R24). -/
def State.succeeded (i : Instr) (t : State) : Prop :=
  t.status = ⟨false, true, true, 0⟩ ∧ t.einfo = 0 ∧ t.phase = .idle ∧ t.ops = ⟨i.opcode, i.rowBits, i.pselBits⟩

/-- The registers a transmit command leaves when packet k exhausted its retries (R246, R37). -/
def State.timedOut (i : Instr) (k : Nat) (t : State) : Prop :=
  t.status = ⟨false, true, false, 1⟩ ∧ t.einfo = BitVec.ofNat 16 k ∧ t.phase = .idle
    ∧ t.ops = ⟨i.opcode, i.rowBits, i.pselBits⟩ ∧ t.pkt = BitVec.ofNat 4 k

/-! ### The invariant of the machine -/

/-- The engine is running a transmit command whose packet index is in the command's range (R25, R27). -/
def State.onPacket (s : State) : Prop :=
  (s.ops = OperandLatches.ofInstr .tx1 ∧ s.pkt.toNat ≤ 3)
    ∨ ∃ plane, s.ops = OperandLatches.ofInstr (.tx2 plane) ∧ s.pkt.toNat ≤ 13

/-- What each value of PHASE says of the latches and counters (R25 to R27). -/
def State.sequenced (s : State) : Prop :=
  match s.phase with
  | .idle => True
  | .clrRun => s.ops = OperandLatches.ofInstr .clr
  | .asmRun => ∃ row psel, row.toNat ≤ 17 ∧ s.ops = OperandLatches.ofInstr (.asm row psel)
  | .pktLoad => s.onPacket
  | .pktSend => s.onPacket ∧ 1 ≤ s.att.toNat ∧ s.att.toNat ≤ 10
  | .pktBackoff => s.onPacket ∧ 1 ≤ s.att.toNat ∧ s.att.toNat ≤ 10
  | .bulkWait => s.ops = OperandLatches.ofInstr .tx1 ∧ s.idx.toNat ≤ 111
  | .bulkEmit => s.ops = OperandLatches.ofInstr .tx1 ∧ s.idx.toNat ≤ 111
  | .tailWait => s.ops = OperandLatches.ofInstr .tx1 ∧ s.idx.toNat ≤ 5
  | .tailEmit => s.ops = OperandLatches.ofInstr .tx1 ∧ s.idx.toNat ≤ 5
  | .ack1 => s.ops = OperandLatches.ofInstr .tx1
  | .ack2 => s.ops = OperandLatches.ofInstr .tx1
  | .pace => s.ops = OperandLatches.ofInstr .tx1
  | .ackCr => ∃ plane, s.ops = OperandLatches.ofInstr (.tx2 plane)

/-- STATUS, EINFO and PHASE agree (R36, R37, R241): BUSY exactly while a command runs, and then nothing else is set; OK only
with DONE and no error; ERR only with DONE, with the EINFO its kind records; ERR is never 3. -/
def State.statusAgrees (s : State) : Prop :=
  (s.status.busy = true ↔ s.phase ≠ .idle)
    ∧ (s.status.busy = true → s.status = Status.accepted ∧ s.einfo = 0)
    ∧ (s.status.ok = true → s.status = Status.completed true ∧ s.einfo = 0)
    ∧ (s.status.err = 1 → s.status = Status.raised .packetSendTimeout ∧ s.einfo.toNat ≤ 13)
    ∧ (s.status.err = 2 → s.status = Status.raised .illegalCommand ∧ ∃ e, decode s.einfo = .error e)
    ∧ s.status.err ≠ 3

/-- A job that has taken its snapshot of IE runs with the vertical-blank bits masked and the rest of IE as it was (R214, R227
line H2). -/
def State.vblMasked (s : State) : Prop :=
  s.host.ieSaved < 2 ^ s.params.wIe ∧ s.ie = maskVbl s.host.ieSaved s.params.ieVblMask

/-- What each state of the coordinator says of IE, the printer type, its counters and the words it still has to issue (R210,
R214, R224). -/
def State.jobAgrees (s : State) : Prop :=
  match s.host.job with
  | .idle => True
  | .querying => True
  | .preamble => s.vblMasked ∧ s.host.printer ≠ .fail ∧ ∀ w ∈ s.host.todo, ∃ i, decode w = .ok i
  | .body r => s.vblMasked ∧ s.host.printer ≠ .fail ∧ r ≤ 17 ∧ ∀ w ∈ s.host.todo, ∃ i, decode w = .ok i
  | .trailer k =>
    s.vblMasked ∧ s.host.printer ≠ .fail ∧ 1 ≤ k ∧ k ≤ s.params.nTrailer ∧ ∀ w ∈ s.host.todo, ∃ i, decode w = .ok i
  | .epilogue => s.vblMasked

/-- Every latch and register whose width is a parameter holds a value of that width (R8, R23, R24, R34). -/
def State.widthsHold (s : State) : Prop :=
  s.tile.tid < 2 ^ s.params.wId ∧ s.cfg.lscx < 2 ^ s.params.wScr ∧ s.cfg.lscy < 2 ^ s.params.wScr
    ∧ s.cfg.lwy < 2 ^ s.params.wScr ∧ s.ie < 2 ^ s.params.wIe

/-- The invariant of the machine: it holds at reset and every step keeps it. -/
structure State.Inv (s : State) : Prop where
  params : s.params.wf
  framebuffer : s.fb.wf s.params
  widths : s.widthsHold
  status : s.statusAgrees
  sequenced : s.sequenced
  job : s.jobAgrees

/-- A step that is safe: it answers a next state, neither a fault nor a refusal. -/
def State.stepsSafely (s : State) : Prop := ∃ t, step s = .next t

end Sys2Proof.Machine
end

