-- ==== Sys2Proof/Certificates/Slice0/Obligations.lean ====
section
/-! DEFINITION. The statements for the provers, in the order of OBLIGATIONS.json. -/

open Sys2Proof Sys2Proof.Machine

/-! ### The command word -/

/-- R91, R92, R95: the decoder reads back every command from its word, with every operand at every value the encoding
admits. -/
def Obligations.DecodeReadsBackEveryCommand : Prop :=
  ∀ i : Instr, i.wellFormed = true → decode (encode i) = .ok i

/-- R91, R92, R95: a word decodes to at most the command it is the word of, and that command is well formed: no bit of a legal
word is ignored. -/
def Obligations.LegalWordIsTheWordOfItsCommand : Prop :=
  ∀ (w : CmdWord) (i : Instr), decode w = .ok i → encode i = w ∧ i.wellFormed = true

/-- R92, R95: the legal words are exactly the 58 listed. -/
def Obligations.LegalWordsAreTheListedOnes : Prop :=
  ∀ w : CmdWord, (∃ i, decode w = .ok i) ↔
    (w = 0x1000 ∨ (0x2000 ≤ w.toNat ∧ w.toNat ≤ 0x2011) ∨ (0x2100 ≤ w.toNat ∧ w.toNat ≤ 0x2111)
      ∨ (0x2200 ≤ w.toNat ∧ w.toNat ≤ 0x2211) ∨ w = 0x3000 ∨ w = 0x4000 ∨ w = 0x4100)

/-- R97: words written out decode to the commands they stand for, and the reserved words R96 names do not decode. -/
def Obligations.WordsOfTheSyntaxTableDecode : Prop :=
  decode 0x1000 = .ok .clr ∧ decode 0x2000 = .ok (.asm 0 .plane0) ∧ decode 0x2111 = .ok (.asm 17 .plane1)
    ∧ decode 0x2205 = .ok (.asm 5 .both) ∧ decode 0x3000 = .ok .tx1 ∧ decode 0x4000 = .ok (.tx2 .plane0)
    ∧ decode 0x4100 = .ok (.tx2 .plane1) ∧ (∀ i, decode 0x0000 ≠ .ok i) ∧ (∀ i, decode 0xFFFF ≠ .ok i)

/-- R216 to R219: the words of the host's macros, for every output row. -/
def Obligations.MacrosExpandToTheirWords : Prop :=
  Pseudo.blankRow1.words = [0x1000, 0x3000] ∧ Pseudo.blankRow2.words = [0x1000, 0x4000, 0x4100]
    ∧ ∀ r : BitVec 5,
      (Pseudo.row1 r).words = [0x2200 + r.setWidth 16, 0x3000]
      ∧ (Pseudo.row2 r).words = [0x2000 + r.setWidth 16, 0x4000, 0x2100 + r.setWidth 16, 0x4100]

/-! ### Reset, the step, acceptance and errors -/

/-- R45: the rows of the reset table that fix a value. -/
def Obligations.ResetLeavesTheFixedRows : Prop :=
  State.reset.phase = .idle ∧ State.reset.status.word = 0 ∧ State.reset.einfo = 0

/-- R270, R45: a reset event, in whatever state and phase, leaves PHASE = IDLE, STATUS = 0 and EINFO = 0 and makes no
transaction. The other clauses are the model's choice: that the reset is an input line which the step releases, and that the
link layer's coming answers, the words at the port, the coordinator, IE, the framebuffer and the parameters survive it (log 17;
R270 and U9 leave the link unspecified and are silent on the coordinator); that resets are counted (log 5). -/
def Obligations.ResetEventAbandonsTheCommand : Prop :=
  ∀ s : State, s.resetLine = true →
    ∃ t, step s = .next t ∧ t.phase = .idle ∧ t.status.word = 0 ∧ t.einfo = 0 ∧ t.trace = s.trace ∧ t.link = s.link
      ∧ t.params = s.params ∧ t.fb = s.fb ∧ t.ie = s.ie ∧ t.cmdQueue = s.cmdQueue ∧ t.host = s.host
      ∧ t.resetLine = false ∧ t.resets = s.resets + 1

/-- R39, R209: with no reset event, the idle engine in command grain runs in one step the command that the presented word
decodes to, on the state with that word taken from the port; and a word placed by `withFetchWord` is run so. Command grain is
the model's choice (log 1); in row grain, which State.reset has, `Obligations.SequencingTableRunsThePseudocode` says that the
steps from acceptance to completion reach the same state. -/
def Obligations.StepRunsTheDecodedCommand : Prop :=
  (∀ (s : State) (w : CmdWord) (rest : List CmdWord) (i : Instr),
    s.resetLine = false → s.grain = .command → s.phase = .idle → s.cmdQueue = w :: rest → decode w = .ok i →
      step s = exec i { s with cmdQueue := rest })
  ∧ ∀ (s : State) (nbits w : Nat) (i : Instr), decodeTableWord nbits w = some i →
      step (s.withFetchWord nbits w) = exec i { s with resetLine := false, phase := .idle, grain := .command }

/-- R244: an illegal word is refused at acceptance: DONE with ERR = 2 and EINFO the word, and no other state changes. -/
def Obligations.IllegalWordRaisesIllegalCommand : Prop :=
  ∀ (s : State) (w : CmdWord) (rest : List CmdWord),
    s.resetLine = false → s.phase = .idle → s.cmdQueue = w :: rest → (∀ i, decode w ≠ .ok i) →
      step s = .next { s with cmdQueue := rest, status := ⟨false, true, false, 2⟩, einfo := w }

/-- R246: what a raise does, for both errors: the STATUS word the host reads, EINFO, PHASE, and nothing else. -/
def Obligations.RaiseRecordsTheErrorAndIdles : Prop :=
  ∀ (kind : ErrorKind) (info : BitVec 16) (s : State),
    (raise kind info s).status.word = (match kind with | .packetSendTimeout => 0x0A | .illegalCommand => 0x12)
      ∧ (raise kind info s).einfo = info ∧ (raise kind info s).phase = .idle
      ∧ { raise kind info s with status := s.status, einfo := s.einfo, phase := s.phase } = s

/-- R39, R24, R250: the engine's acceptance of a legal word: STATUS is BUSY alone and EINFO 0 whatever error stood there, OPC,
ROWR, PSELR are the word's fields, the configuration latches are sampled for ASM only, PHASE and PKT are those of the row IDLE
of R27; everything else but the port is unchanged. In row grain, with no reset event, it is the machine's step. -/
def Obligations.AcceptanceLatchesAndClearsTheError : Prop :=
  ∀ (s : State) (w : CmdWord) (rest : List CmdWord) (i : Instr),
    s.phase = .idle → s.cmdQueue = w :: rest → decode w = .ok i →
      ∃ t, engineStep s = .next t ∧ (s.resetLine = false → s.grain = .row → step s = .next t)
        ∧ t.status.word = 0x01 ∧ t.einfo = 0 ∧ t.cmdQueue = rest
        ∧ t.phase = (match i with | .clr => .clrRun | .asm _ _ => .asmRun | .tx1 => .pktLoad | .tx2 _ => .pktLoad)
        ∧ t.pkt = (match i with | .clr => s.pkt | .asm _ _ => s.pkt | .tx1 => 0 | .tx2 _ => 0)
        ∧ t.ops = ⟨opcField w, rowField w, pselField w⟩
        ∧ (opcField w = 2 → t.cfg = ⟨s.fb.scx, s.fb.scy, s.fb.wy, s.fb.winEn⟩)
        ∧ (opcField w ≠ 2 → t.cfg = s.cfg)
        ∧ { t with status := s.status, einfo := s.einfo, cmdQueue := s.cmdQueue, ops := s.ops, cfg := s.cfg,
                   phase := s.phase, pkt := s.pkt } = s

/-- R39: a word presented while a command runs is neither accepted nor lost. -/
def Obligations.PresentedWordWaitsWhileBusy : Prop :=
  ∀ s t : State, s.resetLine = false → s.phase ≠ .idle → step s = .next t → t.cmdQueue = s.cmdQueue

/-- R36: every command ends with STATUS = 0x06, or, a transmit command only, with 0x0A. -/
def Obligations.CommandEndsWithDoneStatus : Prop :=
  ∀ (i : Instr) (s t : State), exec i s = .next t →
    t.phase = .idle
      ∧ (t.status.word = 0x06 ∨ (t.status.word = 0x0A ∧ (i = .tx1 ∨ ∃ plane, i = .tx2 plane)))

/-- R10, R63, R34, R44: no command writes the framebuffer (no map cell and no pattern byte reads otherwise after it), IE, the
port, the coordinator or a parameter. -/
def Obligations.CommandsLeaveTheSurroundings : Prop :=
  ∀ (i : Instr) (s t : State), exec i s = .next t →
    s.sameSurroundings t
      ∧ (∀ col row, t.fb.readBkg col row = s.fb.readBkg col row ∧ t.fb.readWin col row = s.fb.readWin col row)
      ∧ ∀ id k, t.fb.pattern.patternByte id k = s.fb.pattern.patternByte id k

/-! ### The invariant -/

/-- The invariant holds at reset, whatever the unspecified registers hold. -/
def Obligations.ResetMeetsTheInvariant : Prop := State.reset.Inv

/-- Every step keeps the invariant: STATUS, EINFO and PHASE agree (R36, R37, R241), the counters are in range (R27), the
framebuffer is canonical (R60), and a job in progress runs with the vertical-blank interrupt masked (R214, R276). -/
def Obligations.EveryStepKeepsTheInvariant : Prop :=
  ∀ s t : State, s.Inv → step s = .next t → t.Inv

/-- R240: under the invariant no step faults or refuses. -/
def Obligations.InvariantStatesStepSafely : Prop := ∀ s : State, s.Inv → s.stepsSafely

/-! ### The tile transformer -/

/-- R123: the rotator's positional rule. -/
def Obligations.RotatorTransposesTheBits : Prop :=
  ∀ (x : PrinterTile) (i j : Fin 8), (rot x)[i.val].getLsbD (7 - j.val) = x[j.val].getLsbD (7 - i.val)

/-- R126: the closed forms of both operations, the output bit of every pixel from its two plane bits, and the dither mask's
columns. -/
def Obligations.TransformerClosedForms : Prop :=
  ∀ p : Pattern,
    (∀ plane, xformPlane p plane = rot (Vector.ofFn fun j : Fin 8 => planeRow p plane j))
    ∧ xformDither p = rot (Vector.ofFn fun j : Fin 8 => planeRow p .plane1 j ||| (planeRow p .plane0 j &&& ditherMask j))
    ∧ ∀ i j : Fin 8,
      let s0 := p[2 * j.val].getLsbD (7 - i.val)
      let s1 := p[2 * j.val + 1].getLsbD (7 - i.val)
      (xform p .plane0)[i.val].getLsbD (7 - j.val) = s0
      ∧ (xform p .plane1)[i.val].getLsbD (7 - j.val) = s1
      ∧ (xform p .both)[i.val].getLsbD (7 - j.val) = (s1 || (s0 && (i.val + j.val) % 2 == 0))
      ∧ (ditherMask j).getLsbD (7 - i.val) = ((i.val + j.val) % 2 == 0)

/-- R128 law 3: the rotator distributes over or, and, xor applied row by row, and is its own inverse. -/
def Obligations.RotatorDistributesAndInverts : Prop :=
  ∀ x y : PrinterTile,
    rot (rot x) = x
    ∧ rot (Vector.zipWith (· ||| ·) x y) = Vector.zipWith (· ||| ·) (rot x) (rot y)
    ∧ rot (Vector.zipWith (· &&& ·) x y) = Vector.zipWith (· &&& ·) (rot x) (rot y)
    ∧ rot (Vector.zipWith (· ^^^ ·) x y) = Vector.zipWith (· ^^^ ·) (rot x) (rot y)

/-- R128 law 4: the single-plane transform is a bijection from the eight bytes of the selected plane to the eight output
bytes. -/
def Obligations.PlaneTransformIsABijection : Prop :=
  (∀ (p q : Pattern) (plane : Plane),
    xformPlane p plane = xformPlane q plane ↔ ∀ j, planeRow p plane j = planeRow q plane j)
  ∧ ∀ (plane : Plane) (o : PrinterTile), ∃ p, xformPlane p plane = o

/-- R128 laws 1, 2, 5 and 6: blank and full tiles, and the bounds of the dithered result, bit by bit. -/
def Obligations.DitherLiesBetweenThePlanes : Prop :=
  (∀ psel, xform (Vector.replicate 16 0x00) psel = Vector.replicate 8 0x00)
  ∧ (∀ psel, xform (Vector.replicate 16 0xFF) psel = Vector.replicate 8 0xFF)
  ∧ ∀ (p : Pattern) (i : Fin 8),
    (xformPlane p .plane1)[i.val] &&& (xformDither p)[i.val] = (xformPlane p .plane1)[i.val]
    ∧ (xformDither p)[i.val] &&& ((xformPlane p .plane0)[i.val] ||| (xformPlane p .plane1)[i.val]) = (xformDither p)[i.val]
    ∧ ((∀ j, planeRow p .plane0 j = 0) → xformDither p = xformPlane p .plane1)

/-- R129: with plane 1 all zero, dithering is the single-plane transform of plane 0 masked with 0xAA on even rows and 0x55 on
odd rows; the checkerboard in phase with the mask is kept and the one out of phase removed. -/
def Obligations.DitherParity : Prop :=
  (∀ p q : Pattern, (∀ j, planeRow p .plane1 j = 0) →
    (∀ j : Fin 8, planeRow q .plane0 j = planeRow p .plane0 j &&& (if j.val % 2 = 0 then 0xAA#8 else 0x55#8)) →
      xformDither p = xformPlane q .plane0)
  ∧ (∀ p : Pattern, (∀ j, planeRow p .plane1 j = 0) →
      (∀ i j : Fin 8, (planeRow p .plane0 j).getLsbD (7 - i.val) = decide ((i.val + j.val) % 2 = 0)) →
        xformDither p = xformPlane p .plane0
        ∧ (xformDither p).toList = [0xAA, 0x55, 0xAA, 0x55, 0xAA, 0x55, 0xAA, 0x55])
  ∧ ∀ p : Pattern, (∀ j, planeRow p .plane1 j = 0) →
      (∀ i j : Fin 8, (planeRow p .plane0 j).getLsbD (7 - i.val) = decide ((i.val + j.val) % 2 = 1)) →
        xformDither p = Vector.replicate 8 0

/-! ### CLR and ASM -/

/-- R141: CLR completes in every state with RB all zero, and changes nothing else but the latches and status of every
command. -/
def Obligations.ClrMakesTheBlankRow : Prop :=
  encode .clr = 0x1000
  ∧ ∀ s : State,
    exec .clr s = .next { s with
      rb := Vector.replicate 160 0, ops := ⟨1, 0, 0⟩, status := ⟨false, true, true, 0⟩, einfo := 0, phase := .idle }

/-- R149, with R142: ASM completes in every state; slot c of RB is the transform of the pattern of the id at the source cell
of (c, r), from the framebuffer as it stands; the status is that of a success; what the assembler does not own is
unchanged. -/
def Obligations.AsmAssemblesTheRow : Prop :=
  ∀ (row : BitVec 5) (psel : PlaneSel) (s : State), row.toNat ≤ 17 →
    ∃ t, exec (.asm row psel) s = .next t ∧ t.succeeded (.asm row psel)
      ∧ (∀ (c : Fin 20) (i : Fin 8),
        t.rb[8 * c.val + i.val] =
          (xform (s.fb.fetchPattern
            (if s.fb.winEn = true ∧ s.fb.wy ≤ row.toNat * 8
             then s.fb.readWin (Fin.ofNat 32 c.val) (Fin.ofNat 32 (row.toNat - s.fb.wy / 8))
             else s.fb.readBkg (Fin.ofNat 32 (c.val + s.fb.scx / 8)) (Fin.ofNat 32 (row.toNat + s.fb.scy / 8)))) psel)[i.val])
      ∧ t.cfg = ⟨s.fb.scx, s.fb.scy, s.fb.wy, s.fb.winEn⟩ ∧ s.sameForAssembly t

/-- R67, R126, R149: every printed dot of an assembled row. Dot (n, j) of the 160 by 8 strip is bit 7-j of RB[n], and it is
decided by the shade of source pixel (n mod 8, j) of the tile at visible column n div 8, under the plane selector. -/
def Obligations.AsmDotsFollowTheShades : Prop :=
  ∀ (row : BitVec 5) (psel : PlaneSel) (s t : State), row.toNat ≤ 17 → exec (.asm row psel) s = .next t →
    ∀ (n : Fin 160) (j : Fin 8),
      let pat := s.fb.fetchPattern (sourceTile s.fb ⟨s.fb.scx, s.fb.scy, s.fb.wy, s.fb.winEn⟩ row.toNat (n.val / 8))
      let s0 := pat[2 * j.val].getLsbD (7 - n.val % 8)
      let s1 := pat[2 * j.val + 1].getLsbD (7 - n.val % 8)
      t.rb[n.val].getLsbD (7 - j.val) =
        (match psel with
         | .plane0 => s0
         | .plane1 => s1
         | .both => s1 || (s0 && (n.val + j.val) % 2 == 0))

/-- R143: the window test and its consequences. -/
def Obligations.WindowTestFollowsWy : Prop :=
  ∀ (r : Nat) (c : ConfigLatches), r ≤ 17 →
    (usingWindow r c = true ↔ c.lwy ≤ r * 8 ∧ c.lwin = true)
    ∧ (c.lwin = false → usingWindow r c = false)
    ∧ (c.lwin = true → c.lwy = 0 → usingWindow r c = true)
    ∧ (c.lwin = true → 136 < c.lwy → usingWindow r c = false)
    ∧ (c.lwin = true → (usingWindow r c = true ↔ (c.lwy + 7) / 8 ≤ r))

/-- R150: putting another id into a background map cell changes at most the eight bytes of the one slot that cell feeds, and
only in a row that does not use the window; and no cell feeds two visible positions. -/
def Obligations.AsmBackgroundLocality : Prop :=
  (∀ (row : BitVec 5) (psel : PlaneSel) (s t u : State) (c m : Fin 32) (id : Nat), row.toNat ≤ 17 →
    exec (.asm row psel) s = .next t → exec (.asm row psel) { s with fb := s.fb.writeBkg c m id } = .next u →
      ∀ (k : Fin 20) (i : Fin 8), u.rb[8 * k.val + i.val] ≠ t.rb[8 * k.val + i.val] →
        ¬(s.fb.winEn = true ∧ s.fb.wy ≤ row.toNat * 8)
          ∧ m.val = (row.toNat + s.fb.scy / 8) % 32 ∧ c.val = (k.val + s.fb.scx / 8) % 32)
  ∧ ∀ (scx scy k r k' r' : Nat), k < 20 → k' < 20 → r ≤ 17 → r' ≤ 17 →
      (k + scx / 8) % 32 = (k' + scx / 8) % 32 → (r + scy / 8) % 32 = (r' + scy / 8) % 32 → k = k' ∧ r = r'

/-- R148, R151: RB depends on SCX and SCY only through their tile offsets modulo 32: sub-tile offsets are ignored and 256
pixels are a whole turn. -/
def Obligations.AsmScrollByTilesModulo32 : Prop :=
  ∀ (row : BitVec 5) (psel : PlaneSel) (s t u : State) (scx scy : Nat), row.toNat ≤ 17 →
    scx / 8 % 32 = s.fb.scx / 8 % 32 → scy / 8 % 32 = s.fb.scy / 8 % 32 →
      exec (.asm row psel) s = .next t → exec (.asm row psel) { s with fb := { s.fb with scx := scx, scy := scy } } = .next u →
        u.rb = t.rb

/-- R77: after CLR or ASM no byte of RB, and nothing else, depends on what RB held before. -/
def Obligations.RowCommandsLeaveNoResidue : Prop :=
  ∀ (s : State) (b : Vector Byte 160), exec .clr { s with rb := b } = exec .clr s
    ∧ ∀ row psel, exec (.asm row psel) { s with rb := b } = exec (.asm row psel) s

/-! ### The retry wrapper -/

/-- R163: the wrapper stops at the first success, at most at the tenth attempt, and otherwise gives up after exactly ten; its
transactions are those stated, every attempt with the same TXB and TXLEN; it writes ATT and the trace only. -/
def Obligations.RetryWrapperIsBounded : Prop :=
  ∀ s : State,
    (∀ f : Nat, f ≤ 9 → s.sendsAnswered (failsThenSucceeds f) →
      ∃ t, sendPacketRetry s = (true, t)
        ∧ t.trace = s.trace ++ packetTrace s.params.cmdPrintSendBytes s.txlen s.txPayload f
        ∧ t.att = BitVec.ofNat 4 (f + 1) ∧ { t with trace := s.trace, att := s.att, link := s.link } = s)
    ∧ (s.sendsAnswered (List.replicate 10 false) →
      ∃ t, sendPacketRetry s = (false, t)
        ∧ t.trace = s.trace ++ exhaustedTrace s.params.cmdPrintSendBytes s.txlen s.txPayload s.params.retrySleepAfterLast
        ∧ t.att = 10 ∧ { t with trace := s.trace, att := s.att, link := s.link } = s)

/-! ### TX1 -/

/-- R161 to R167, R169: when each of the four packets is answered within ten attempts, TX1 completes; its transactions are the
four packets of RB[0..47], the 112 bulk bytes RB[48..159], six zero bytes, two 200 ms reads and one sleep of 1000 ms, whatever
the reads answer; and its end state. The end values of PKT, IDX and ATT are read from the rows of R27 (log 12); that a read that
times out leaves RXB alone is R22 (log 16). -/
def Obligations.Tx1SendsTheRow : Prop :=
  ∀ (s : State) (fs : List Nat), fs.length = 4 → withinRetries fs → s.sendsAnswered (packetAnswers fs) →
    ∃ t, exec .tx1 s = .next t ∧ t.succeeded .tx1
      ∧ t.trace = s.trace ++ dataTrace s.params.cmdPrintSendBytes s.rb 0 fs ++ bulkTrace s.arrives s.rb
          ++ tailTrace s.arrives ++ closeTrace s.arrives
      ∧ t.txb.toList = packetData s.rb 3 ∧ t.txlen = 12 ∧ t.pkt = 3 ∧ t.idx = 5
      ∧ t.att = BitVec.ofNat 4 (fs.getLastD 0 + 1)
      ∧ ((∀ n < 120, s.arrives n = false) → t.rxb = s.rxb) ∧ s.sameForTransmit t

/-- R168, R242: when packet k is the first that fails ten times, TX1 ends at once by PacketSendTimeout(k): no later packet, no
bulk or tail byte, no read, no sleep of 1000 ms; TXB and TXLEN hold packet k. -/
def Obligations.Tx1StopsAtTheExhaustedPacket : Prop :=
  ∀ (s : State) (fs : List Nat), fs.length ≤ 3 → withinRetries fs →
    s.sendsAnswered (packetAnswers fs ++ List.replicate 10 false) →
      ∃ t, exec .tx1 s = .next t ∧ t.timedOut .tx1 fs.length
        ∧ t.trace = s.trace ++ dataTrace s.params.cmdPrintSendBytes s.rb 0 fs
            ++ exhaustedTrace s.params.cmdPrintSendBytes 12 (packetData s.rb fs.length) s.params.retrySleepAfterLast
        ∧ t.txb.toList = packetData s.rb fs.length ∧ t.txlen = 12 ∧ t.att = 10 ∧ t.idx = s.idx ∧ t.rxb = s.rxb
        ∧ s.sameForTransmit t

/-- R168, R170, R104: for every state and every link: TX1 ends (as D21 assumes; log 3), and either it succeeded and its payload is the whole of RB in
order and six zero bytes (166 bytes), or it names the packet k in 0..3 that failed and its payload is the first 12k bytes of
RB. -/
def Obligations.Tx1PayloadIsTheRowOrAPrefix : Prop :=
  ∀ s : State, ∃ t es, exec .tx1 s = .next t ∧ t.trace = s.trace ++ es ∧ s.sameForTransmit t
    ∧ ((t.succeeded .tx1 ∧ payload es = s.rb.toList ++ List.replicate 6 0x00 ∧ (payload es).length = 166)
      ∨ ∃ k ≤ 3, t.timedOut .tx1 k ∧ payload es = s.rb.toList.take (12 * k))

/-- R171, R243: the answers to TX1's reads change nothing but the recorded arrivals and RXB: the requests, the registers and
the status are the same whatever they are. -/
def Obligations.Tx1IgnoresMissedAcknowledgements : Prop :=
  ∀ (s t u : State) (script : List (Option Byte)) (draws : Nat),
    exec .tx1 s = .next t →
    exec .tx1 { s with link := { s.link with readScript := script, readDraws := draws } } = .next u →
      u.trace.map Event.request = t.trace.map Event.request
        ∧ { u with trace := t.trace, rxb := t.rxb, link := t.link } = t

/-! ### TX2 -/

/-- R191 to R194, R196: when each of the fourteen packets is answered within ten attempts, TX2 p completes; its transactions
are the thirteen data packets, the terminator packet of plane p and one 200 ms read, whatever it answers; and its end state,
with the bytes that packet 12 left in TXB beyond TXLEN. -/
def Obligations.Tx2SendsThePlane : Prop :=
  ∀ (plane : Plane) (s : State) (fs : List Nat) (f : Nat), fs.length = 13 → withinRetries fs → f ≤ 9 →
    s.sendsAnswered (packetAnswers fs ++ failsThenSucceeds f) →
      ∃ t, exec (.tx2 plane) s = .next t ∧ t.succeeded (.tx2 plane)
        ∧ t.trace = s.trace ++ dataTrace s.params.cmdPrintSendBytes s.rb 0 fs
            ++ packetTrace s.params.cmdPrintSendBytes (match plane with | .plane0 => 5 | .plane1 => 6)
                (terminatorData s.rb plane) f
            ++ [Event.readWait 200 (s.arrives 0)]
        ∧ t.txb.toList = terminatorData s.rb plane ++ (packetData s.rb 12).drop (terminatorData s.rb plane).length
        ∧ t.txlen = (match plane with | .plane0 => 5 | .plane1 => 6) ∧ t.pkt = 13
        ∧ t.att = BitVec.ofNat 4 (f + 1) ∧ t.idx = s.idx
        ∧ (s.arrives 0 = false → t.rxb = s.rxb) ∧ s.sameForTransmit t

/-- R195, R242: when packet k is the first that fails ten times, TX2 ends at once by PacketSendTimeout(k): no later packet and
no read; a failure in packets 0..12 sends no terminator. -/
def Obligations.Tx2StopsAtTheExhaustedPacket : Prop :=
  ∀ (plane : Plane) (s : State) (fs : List Nat), withinRetries fs →
    s.sendsAnswered (packetAnswers fs ++ List.replicate 10 false) →
      (fs.length ≤ 12 →
        ∃ t, exec (.tx2 plane) s = .next t ∧ t.timedOut (.tx2 plane) fs.length
          ∧ t.trace = s.trace ++ dataTrace s.params.cmdPrintSendBytes s.rb 0 fs
              ++ exhaustedTrace s.params.cmdPrintSendBytes 12 (packetData s.rb fs.length) s.params.retrySleepAfterLast
          ∧ t.txb.toList = packetData s.rb fs.length ∧ t.txlen = 12 ∧ t.att = 10 ∧ t.idx = s.idx ∧ t.rxb = s.rxb
          ∧ s.sameForTransmit t)
      ∧ (fs.length = 13 →
        ∃ t, exec (.tx2 plane) s = .next t ∧ t.timedOut (.tx2 plane) 13
          ∧ t.trace = s.trace ++ dataTrace s.params.cmdPrintSendBytes s.rb 0 fs
              ++ exhaustedTrace s.params.cmdPrintSendBytes (match plane with | .plane0 => 5 | .plane1 => 6)
                  (terminatorData s.rb plane) s.params.retrySleepAfterLast
          ∧ t.txb.toList = terminatorData s.rb plane ++ (packetData s.rb 12).drop (terminatorData s.rb plane).length
          ∧ t.txlen = (match plane with | .plane0 => 5 | .plane1 => 6) ∧ t.att = 10 ∧ t.idx = s.idx ∧ t.rxb = s.rxb
          ∧ s.sameForTransmit t)

/-- R195, R197, R105: for every state and every link: TX2 ends (as D21 assumes; log 3), and either it succeeded and its payload is the whole of RB in
order and the plane's terminator (161 or 162 bytes), or it names the packet k in 0..13 that failed and its payload is the
first 12k bytes of RB. -/
def Obligations.Tx2PayloadIsThePlaneOrAPrefix : Prop :=
  ∀ (plane : Plane) (s : State), ∃ t es, exec (.tx2 plane) s = .next t ∧ t.trace = s.trace ++ es ∧ s.sameForTransmit t
    ∧ ((t.succeeded (.tx2 plane)
          ∧ payload es = s.rb.toList ++ (match plane with | .plane0 => [0x0D] | .plane1 => [0x0D, 0x0A])
          ∧ (payload es).length = (match plane with | .plane0 => 161 | .plane1 => 162))
      ∨ ∃ k ≤ 13, t.timedOut (.tx2 plane) k ∧ payload es = s.rb.toList.take (12 * k))

/-- R191, R243: the answer to TX2's one read changes nothing but the recorded arrival and RXB. -/
def Obligations.Tx2IgnoresAMissedAcknowledgement : Prop :=
  ∀ (plane : Plane) (s t u : State) (script : List (Option Byte)) (draws : Nat),
    exec (.tx2 plane) s = .next t →
    exec (.tx2 plane) { s with link := { s.link with readScript := script, readDraws := draws } } = .next u →
      u.trace.map Event.request = t.trace.map Event.request
        ∧ { u with trace := t.trace, rxb := t.rxb, link := t.link } = t

/-! ### The sequencing table against the pseudocode -/

/-- R27, R39, 90_conflicts.md C13: from IDLE with a legal word presented and in row grain, the machine's steps reach exactly the
state that the command's sequential meaning gives, in finitely many (log 3), with the engine busy, STATUS = 0x01 and the port
untouched in every state between. -/
def Obligations.SequencingTableRunsThePseudocode : Prop :=
  ∀ (s : State) (w : CmdWord) (rest : List CmdWord) (i : Instr),
    s.resetLine = false → s.grain = .row → s.phase = .idle → s.cmdQueue = w :: rest → decode w = .ok i →
      ∃ n t, exec i { s with cmdQueue := rest } = .next t ∧ core.run n s = .next t
        ∧ ∀ m, 0 < m → m < n →
          ∃ u, core.run m s = .next u ∧ u.phase ≠ .idle ∧ u.status.word = 0x01 ∧ u.cmdQueue = rest

/-! ### The framebuffer layer -/

/-- R60 to R62, with the model's storage (log 8): a cell written reads back, and every other cell of the same space, and every
cell of the other two spaces, reads as before. -/
def Obligations.FramebufferCellsAreSeparate : Prop :=
  ∀ fb : FrameBuffer, fb.bkg.wf → fb.win.wf → fb.pattern.wf →
    (∀ (c m c' m' : Fin 32) (id : Nat),
      (fb.writeBkg c m id).readBkg c' m' = (if c' = c ∧ m' = m then id else fb.readBkg c' m')
      ∧ (fb.writeWin c m id).readWin c' m' = (if c' = c ∧ m' = m then id else fb.readWin c' m')
      ∧ (fb.writeBkg c m id).readWin c' m' = fb.readWin c' m'
      ∧ (fb.writeWin c m id).readBkg c' m' = fb.readBkg c' m')
    ∧ (∀ (c m : Fin 32) (id id' : Nat) (k' : Fin 16),
      (fb.writeBkg c m id).pattern.patternByte id' k' = fb.pattern.patternByte id' k'
      ∧ (fb.writeWin c m id).pattern.patternByte id' k' = fb.pattern.patternByte id' k')
    ∧ (∀ (id id' : Nat) (k k' : Fin 16) (b : Byte),
      (fb.writePattern id k b).pattern.patternByte id' k' =
        (if id' = id ∧ k' = k then b else fb.pattern.patternByte id' k'))
    ∧ ∀ (id : Nat) (k : Fin 16) (b : Byte) (c' m' : Fin 32),
      (fb.writePattern id k b).readBkg c' m' = fb.readBkg c' m'
      ∧ (fb.writePattern id k b).readWin c' m' = fb.readWin c' m'

/-! ### The job -/

/-- R212: the map of the query result, for every byte. -/
def Obligations.QueryResultsMapToPrinterTypes : Prop :=
  mapQuery 0 = .fail ∧ mapQuery 1 = .ok1Pass ∧ mapQuery 2 = .ok2Pass ∧ mapQuery 3 = .ok1Pass
    ∧ ∀ q : Byte, 4 ≤ q.toNat → mapQuery q = .fail

/-- R213: a job whose query maps to FAIL returns false and changes nothing but the query's own answer. -/
def Obligations.NoPrinterJobTouchesNothing : Prop :=
  ∀ s : State, mapQuery s.link.nextQuery.1 = .fail → printScreen s = (false, { s with link := s.link.nextQuery.2 })

/-- R214: the snapshot and the mask, bit by bit: the coordinator's QUERYING move saves IE, clears the bits of IE_VBL_MASK and
no other, and begins the leading blank row. -/
def Obligations.JobMasksTheVerticalBlank : Prop :=
  ∀ s : State, s.host.job = .querying → mapQuery s.link.nextQuery.1 ≠ .fail →
    (hostStep s).host.ieSaved = s.ie ∧ (hostStep s).host.job = .preamble
      ∧ ∀ n, (hostStep s).ie.testBit n = (s.ie.testBit n && !s.params.ieVblMask.testBit n)

/-- R222: after PRINT_SCREEN returns, whatever happened, IE is what it was before the call. -/
def Obligations.JobRestoresTheInterruptMask : Prop := ∀ s : State, (printScreen s).2.ie = s.ie

/-- R225: the counts of a job that returns true. -/
def Obligations.SuccessfulJobCounts : Prop :=
  ∀ s : State, (printScreen s).1 = true →
    ∃ es, (printScreen s).2.trace = s.trace ++ es
      ∧ ((mapQuery s.link.nextQuery.1 = .ok1Pass ∧ (payload es).length = 166 * (19 + s.params.nTrailer)
            ∧ es.count (.sleep 1000) = 19 + s.params.nTrailer)
        ∨ (mapQuery s.link.nextQuery.1 = .ok2Pass ∧ (payload es).length = 323 * (19 + s.params.nTrailer)
            ∧ es.count (.sleep 1000) = 0))

/-- R226: with every packet send failing, a job ends false after exactly ten attempts at packet 0 of the leading blank row,
with nothing sent, and IE restored. -/
def Obligations.DeadLinkEndsTheJobAfterTenAttempts : Prop :=
  ∀ s : State, mapQuery s.link.nextQuery.1 ≠ .fail → s.sendsAnswered (List.replicate 10 false) →
    ∃ t, printScreen s = (false, t) ∧ t.ie = s.ie
      ∧ t.trace = s.trace
          ++ exhaustedTrace s.params.cmdPrintSendBytes 12 (List.replicate 12 0x00) s.params.retrySleepAfterLast
      ∧ t.status.word = 0x0A ∧ t.einfo = 0 ∧ t.rb = Vector.replicate 160 0

/-- R210, R224: the coordinator's state machine, run by the machine's own steps from a print request, in either grain, ends the
job with the result and the state of the sequential `PRINT_SCREEN`. That the job ends rests on D21 (log 3); the grain of the
engine's and the host's moves is the model's choice (log 1, log 9, log 22). -/
def Obligations.CoordinatorRunsPrintScreen : Prop :=
  ∀ s : State, s.resetLine = false → s.phase = .idle → s.cmdQueue = [] → s.host.job = .idle → s.host.request = true →
    1 ≤ s.params.nTrailer →
      ∃ n t, core.run n s = .next t ∧ t.host.job = .idle ∧ t.host.request = false
        ∧ t.host.result = some (printScreen s).1
        ∧ { t with host := s.host } = (printScreen s).2

/-! ### One transaction a step -/

/-- R27: in row grain a step makes at most one link or timer transaction, and the trace only grows. -/
def Obligations.StepMakesAtMostOneTransaction : Prop :=
  ∀ s t : State, s.grain = .row → step s = .next t → t.trace = s.trace ∨ ∃ e, t.trace = s.trace ++ [e]
end

