-- ==== Sys2Proof/Laws/State.lean ====
section
/-! SUPPORT. What every named update of a state does to every field: one lemma per field per update, each true by rfl and a
simp lemma, so that no later proof unfolds a record update. -/

namespace Sys2Proof.Machine


/-! ### emit -/

@[simp] theorem State.emit_params (e : Event) (s : State) : (s.emit e).params = s.params := rfl
@[simp] theorem State.emit_rb (e : Event) (s : State) : (s.emit e).rb = s.rb := rfl
@[simp] theorem State.emit_txb (e : Event) (s : State) : (s.emit e).txb = s.txb := rfl
@[simp] theorem State.emit_txlen (e : Event) (s : State) : (s.emit e).txlen = s.txlen := rfl
@[simp] theorem State.emit_rxb (e : Event) (s : State) : (s.emit e).rxb = s.rxb := rfl
@[simp] theorem State.emit_tile (e : Event) (s : State) : (s.emit e).tile = s.tile := rfl
@[simp] theorem State.emit_ops (e : Event) (s : State) : (s.emit e).ops = s.ops := rfl
@[simp] theorem State.emit_cfg (e : Event) (s : State) : (s.emit e).cfg = s.cfg := rfl
@[simp] theorem State.emit_phase (e : Event) (s : State) : (s.emit e).phase = s.phase := rfl
@[simp] theorem State.emit_pkt (e : Event) (s : State) : (s.emit e).pkt = s.pkt := rfl
@[simp] theorem State.emit_idx (e : Event) (s : State) : (s.emit e).idx = s.idx := rfl
@[simp] theorem State.emit_att (e : Event) (s : State) : (s.emit e).att = s.att := rfl
@[simp] theorem State.emit_status (e : Event) (s : State) : (s.emit e).status = s.status := rfl
@[simp] theorem State.emit_einfo (e : Event) (s : State) : (s.emit e).einfo = s.einfo := rfl
@[simp] theorem State.emit_fb (e : Event) (s : State) : (s.emit e).fb = s.fb := rfl
@[simp] theorem State.emit_ie (e : Event) (s : State) : (s.emit e).ie = s.ie := rfl
@[simp] theorem State.emit_cmdQueue (e : Event) (s : State) : (s.emit e).cmdQueue = s.cmdQueue := rfl
@[simp] theorem State.emit_trace (e : Event) (s : State) : (s.emit e).trace = s.trace ++ [e] := rfl
@[simp] theorem State.emit_link (e : Event) (s : State) : (s.emit e).link = s.link := rfl
@[simp] theorem State.emit_host (e : Event) (s : State) : (s.emit e).host = s.host := rfl
@[simp] theorem State.emit_resetLine (e : Event) (s : State) : (s.emit e).resetLine = s.resetLine := rfl
@[simp] theorem State.emit_resets (e : Event) (s : State) : (s.emit e).resets = s.resets := rfl
@[simp] theorem State.emit_grain (e : Event) (s : State) : (s.emit e).grain = s.grain := rfl

/-! ### setPhase -/

@[simp] theorem State.setPhase_params (p : Phase) (s : State) : (s.setPhase p).params = s.params := rfl
@[simp] theorem State.setPhase_rb (p : Phase) (s : State) : (s.setPhase p).rb = s.rb := rfl
@[simp] theorem State.setPhase_txb (p : Phase) (s : State) : (s.setPhase p).txb = s.txb := rfl
@[simp] theorem State.setPhase_txlen (p : Phase) (s : State) : (s.setPhase p).txlen = s.txlen := rfl
@[simp] theorem State.setPhase_rxb (p : Phase) (s : State) : (s.setPhase p).rxb = s.rxb := rfl
@[simp] theorem State.setPhase_tile (p : Phase) (s : State) : (s.setPhase p).tile = s.tile := rfl
@[simp] theorem State.setPhase_ops (p : Phase) (s : State) : (s.setPhase p).ops = s.ops := rfl
@[simp] theorem State.setPhase_cfg (p : Phase) (s : State) : (s.setPhase p).cfg = s.cfg := rfl
@[simp] theorem State.setPhase_phase (p : Phase) (s : State) : (s.setPhase p).phase = p := rfl
@[simp] theorem State.setPhase_pkt (p : Phase) (s : State) : (s.setPhase p).pkt = s.pkt := rfl
@[simp] theorem State.setPhase_idx (p : Phase) (s : State) : (s.setPhase p).idx = s.idx := rfl
@[simp] theorem State.setPhase_att (p : Phase) (s : State) : (s.setPhase p).att = s.att := rfl
@[simp] theorem State.setPhase_status (p : Phase) (s : State) : (s.setPhase p).status = s.status := rfl
@[simp] theorem State.setPhase_einfo (p : Phase) (s : State) : (s.setPhase p).einfo = s.einfo := rfl
@[simp] theorem State.setPhase_fb (p : Phase) (s : State) : (s.setPhase p).fb = s.fb := rfl
@[simp] theorem State.setPhase_ie (p : Phase) (s : State) : (s.setPhase p).ie = s.ie := rfl
@[simp] theorem State.setPhase_cmdQueue (p : Phase) (s : State) : (s.setPhase p).cmdQueue = s.cmdQueue := rfl
@[simp] theorem State.setPhase_trace (p : Phase) (s : State) : (s.setPhase p).trace = s.trace := rfl
@[simp] theorem State.setPhase_link (p : Phase) (s : State) : (s.setPhase p).link = s.link := rfl
@[simp] theorem State.setPhase_host (p : Phase) (s : State) : (s.setPhase p).host = s.host := rfl
@[simp] theorem State.setPhase_resetLine (p : Phase) (s : State) : (s.setPhase p).resetLine = s.resetLine := rfl
@[simp] theorem State.setPhase_resets (p : Phase) (s : State) : (s.setPhase p).resets = s.resets := rfl
@[simp] theorem State.setPhase_grain (p : Phase) (s : State) : (s.setPhase p).grain = s.grain := rfl

/-! ### setPkt -/

@[simp] theorem State.setPkt_params (k : BitVec 4) (s : State) : (s.setPkt k).params = s.params := rfl
@[simp] theorem State.setPkt_rb (k : BitVec 4) (s : State) : (s.setPkt k).rb = s.rb := rfl
@[simp] theorem State.setPkt_txb (k : BitVec 4) (s : State) : (s.setPkt k).txb = s.txb := rfl
@[simp] theorem State.setPkt_txlen (k : BitVec 4) (s : State) : (s.setPkt k).txlen = s.txlen := rfl
@[simp] theorem State.setPkt_rxb (k : BitVec 4) (s : State) : (s.setPkt k).rxb = s.rxb := rfl
@[simp] theorem State.setPkt_tile (k : BitVec 4) (s : State) : (s.setPkt k).tile = s.tile := rfl
@[simp] theorem State.setPkt_ops (k : BitVec 4) (s : State) : (s.setPkt k).ops = s.ops := rfl
@[simp] theorem State.setPkt_cfg (k : BitVec 4) (s : State) : (s.setPkt k).cfg = s.cfg := rfl
@[simp] theorem State.setPkt_phase (k : BitVec 4) (s : State) : (s.setPkt k).phase = s.phase := rfl
@[simp] theorem State.setPkt_pkt (k : BitVec 4) (s : State) : (s.setPkt k).pkt = k := rfl
@[simp] theorem State.setPkt_idx (k : BitVec 4) (s : State) : (s.setPkt k).idx = s.idx := rfl
@[simp] theorem State.setPkt_att (k : BitVec 4) (s : State) : (s.setPkt k).att = s.att := rfl
@[simp] theorem State.setPkt_status (k : BitVec 4) (s : State) : (s.setPkt k).status = s.status := rfl
@[simp] theorem State.setPkt_einfo (k : BitVec 4) (s : State) : (s.setPkt k).einfo = s.einfo := rfl
@[simp] theorem State.setPkt_fb (k : BitVec 4) (s : State) : (s.setPkt k).fb = s.fb := rfl
@[simp] theorem State.setPkt_ie (k : BitVec 4) (s : State) : (s.setPkt k).ie = s.ie := rfl
@[simp] theorem State.setPkt_cmdQueue (k : BitVec 4) (s : State) : (s.setPkt k).cmdQueue = s.cmdQueue := rfl
@[simp] theorem State.setPkt_trace (k : BitVec 4) (s : State) : (s.setPkt k).trace = s.trace := rfl
@[simp] theorem State.setPkt_link (k : BitVec 4) (s : State) : (s.setPkt k).link = s.link := rfl
@[simp] theorem State.setPkt_host (k : BitVec 4) (s : State) : (s.setPkt k).host = s.host := rfl
@[simp] theorem State.setPkt_resetLine (k : BitVec 4) (s : State) : (s.setPkt k).resetLine = s.resetLine := rfl
@[simp] theorem State.setPkt_resets (k : BitVec 4) (s : State) : (s.setPkt k).resets = s.resets := rfl
@[simp] theorem State.setPkt_grain (k : BitVec 4) (s : State) : (s.setPkt k).grain = s.grain := rfl

/-! ### setIdx -/

@[simp] theorem State.setIdx_params (m : BitVec 7) (s : State) : (s.setIdx m).params = s.params := rfl
@[simp] theorem State.setIdx_rb (m : BitVec 7) (s : State) : (s.setIdx m).rb = s.rb := rfl
@[simp] theorem State.setIdx_txb (m : BitVec 7) (s : State) : (s.setIdx m).txb = s.txb := rfl
@[simp] theorem State.setIdx_txlen (m : BitVec 7) (s : State) : (s.setIdx m).txlen = s.txlen := rfl
@[simp] theorem State.setIdx_rxb (m : BitVec 7) (s : State) : (s.setIdx m).rxb = s.rxb := rfl
@[simp] theorem State.setIdx_tile (m : BitVec 7) (s : State) : (s.setIdx m).tile = s.tile := rfl
@[simp] theorem State.setIdx_ops (m : BitVec 7) (s : State) : (s.setIdx m).ops = s.ops := rfl
@[simp] theorem State.setIdx_cfg (m : BitVec 7) (s : State) : (s.setIdx m).cfg = s.cfg := rfl
@[simp] theorem State.setIdx_phase (m : BitVec 7) (s : State) : (s.setIdx m).phase = s.phase := rfl
@[simp] theorem State.setIdx_pkt (m : BitVec 7) (s : State) : (s.setIdx m).pkt = s.pkt := rfl
@[simp] theorem State.setIdx_idx (m : BitVec 7) (s : State) : (s.setIdx m).idx = m := rfl
@[simp] theorem State.setIdx_att (m : BitVec 7) (s : State) : (s.setIdx m).att = s.att := rfl
@[simp] theorem State.setIdx_status (m : BitVec 7) (s : State) : (s.setIdx m).status = s.status := rfl
@[simp] theorem State.setIdx_einfo (m : BitVec 7) (s : State) : (s.setIdx m).einfo = s.einfo := rfl
@[simp] theorem State.setIdx_fb (m : BitVec 7) (s : State) : (s.setIdx m).fb = s.fb := rfl
@[simp] theorem State.setIdx_ie (m : BitVec 7) (s : State) : (s.setIdx m).ie = s.ie := rfl
@[simp] theorem State.setIdx_cmdQueue (m : BitVec 7) (s : State) : (s.setIdx m).cmdQueue = s.cmdQueue := rfl
@[simp] theorem State.setIdx_trace (m : BitVec 7) (s : State) : (s.setIdx m).trace = s.trace := rfl
@[simp] theorem State.setIdx_link (m : BitVec 7) (s : State) : (s.setIdx m).link = s.link := rfl
@[simp] theorem State.setIdx_host (m : BitVec 7) (s : State) : (s.setIdx m).host = s.host := rfl
@[simp] theorem State.setIdx_resetLine (m : BitVec 7) (s : State) : (s.setIdx m).resetLine = s.resetLine := rfl
@[simp] theorem State.setIdx_resets (m : BitVec 7) (s : State) : (s.setIdx m).resets = s.resets := rfl
@[simp] theorem State.setIdx_grain (m : BitVec 7) (s : State) : (s.setIdx m).grain = s.grain := rfl

/-! ### setAtt -/

@[simp] theorem State.setAtt_params (a : BitVec 4) (s : State) : (s.setAtt a).params = s.params := rfl
@[simp] theorem State.setAtt_rb (a : BitVec 4) (s : State) : (s.setAtt a).rb = s.rb := rfl
@[simp] theorem State.setAtt_txb (a : BitVec 4) (s : State) : (s.setAtt a).txb = s.txb := rfl
@[simp] theorem State.setAtt_txlen (a : BitVec 4) (s : State) : (s.setAtt a).txlen = s.txlen := rfl
@[simp] theorem State.setAtt_rxb (a : BitVec 4) (s : State) : (s.setAtt a).rxb = s.rxb := rfl
@[simp] theorem State.setAtt_tile (a : BitVec 4) (s : State) : (s.setAtt a).tile = s.tile := rfl
@[simp] theorem State.setAtt_ops (a : BitVec 4) (s : State) : (s.setAtt a).ops = s.ops := rfl
@[simp] theorem State.setAtt_cfg (a : BitVec 4) (s : State) : (s.setAtt a).cfg = s.cfg := rfl
@[simp] theorem State.setAtt_phase (a : BitVec 4) (s : State) : (s.setAtt a).phase = s.phase := rfl
@[simp] theorem State.setAtt_pkt (a : BitVec 4) (s : State) : (s.setAtt a).pkt = s.pkt := rfl
@[simp] theorem State.setAtt_idx (a : BitVec 4) (s : State) : (s.setAtt a).idx = s.idx := rfl
@[simp] theorem State.setAtt_att (a : BitVec 4) (s : State) : (s.setAtt a).att = a := rfl
@[simp] theorem State.setAtt_status (a : BitVec 4) (s : State) : (s.setAtt a).status = s.status := rfl
@[simp] theorem State.setAtt_einfo (a : BitVec 4) (s : State) : (s.setAtt a).einfo = s.einfo := rfl
@[simp] theorem State.setAtt_fb (a : BitVec 4) (s : State) : (s.setAtt a).fb = s.fb := rfl
@[simp] theorem State.setAtt_ie (a : BitVec 4) (s : State) : (s.setAtt a).ie = s.ie := rfl
@[simp] theorem State.setAtt_cmdQueue (a : BitVec 4) (s : State) : (s.setAtt a).cmdQueue = s.cmdQueue := rfl
@[simp] theorem State.setAtt_trace (a : BitVec 4) (s : State) : (s.setAtt a).trace = s.trace := rfl
@[simp] theorem State.setAtt_link (a : BitVec 4) (s : State) : (s.setAtt a).link = s.link := rfl
@[simp] theorem State.setAtt_host (a : BitVec 4) (s : State) : (s.setAtt a).host = s.host := rfl
@[simp] theorem State.setAtt_resetLine (a : BitVec 4) (s : State) : (s.setAtt a).resetLine = s.resetLine := rfl
@[simp] theorem State.setAtt_resets (a : BitVec 4) (s : State) : (s.setAtt a).resets = s.resets := rfl
@[simp] theorem State.setAtt_grain (a : BitVec 4) (s : State) : (s.setAtt a).grain = s.grain := rfl

/-! ### setTx -/

@[simp] theorem State.setTx_params (b : Vector Byte 12) (n : Byte) (s : State) : (s.setTx b n).params = s.params := rfl
@[simp] theorem State.setTx_rb (b : Vector Byte 12) (n : Byte) (s : State) : (s.setTx b n).rb = s.rb := rfl
@[simp] theorem State.setTx_txb (b : Vector Byte 12) (n : Byte) (s : State) : (s.setTx b n).txb = b := rfl
@[simp] theorem State.setTx_txlen (b : Vector Byte 12) (n : Byte) (s : State) : (s.setTx b n).txlen = n := rfl
@[simp] theorem State.setTx_rxb (b : Vector Byte 12) (n : Byte) (s : State) : (s.setTx b n).rxb = s.rxb := rfl
@[simp] theorem State.setTx_tile (b : Vector Byte 12) (n : Byte) (s : State) : (s.setTx b n).tile = s.tile := rfl
@[simp] theorem State.setTx_ops (b : Vector Byte 12) (n : Byte) (s : State) : (s.setTx b n).ops = s.ops := rfl
@[simp] theorem State.setTx_cfg (b : Vector Byte 12) (n : Byte) (s : State) : (s.setTx b n).cfg = s.cfg := rfl
@[simp] theorem State.setTx_phase (b : Vector Byte 12) (n : Byte) (s : State) : (s.setTx b n).phase = s.phase := rfl
@[simp] theorem State.setTx_pkt (b : Vector Byte 12) (n : Byte) (s : State) : (s.setTx b n).pkt = s.pkt := rfl
@[simp] theorem State.setTx_idx (b : Vector Byte 12) (n : Byte) (s : State) : (s.setTx b n).idx = s.idx := rfl
@[simp] theorem State.setTx_att (b : Vector Byte 12) (n : Byte) (s : State) : (s.setTx b n).att = s.att := rfl
@[simp] theorem State.setTx_status (b : Vector Byte 12) (n : Byte) (s : State) : (s.setTx b n).status = s.status := rfl
@[simp] theorem State.setTx_einfo (b : Vector Byte 12) (n : Byte) (s : State) : (s.setTx b n).einfo = s.einfo := rfl
@[simp] theorem State.setTx_fb (b : Vector Byte 12) (n : Byte) (s : State) : (s.setTx b n).fb = s.fb := rfl
@[simp] theorem State.setTx_ie (b : Vector Byte 12) (n : Byte) (s : State) : (s.setTx b n).ie = s.ie := rfl
@[simp] theorem State.setTx_cmdQueue (b : Vector Byte 12) (n : Byte) (s : State) : (s.setTx b n).cmdQueue = s.cmdQueue := rfl
@[simp] theorem State.setTx_trace (b : Vector Byte 12) (n : Byte) (s : State) : (s.setTx b n).trace = s.trace := rfl
@[simp] theorem State.setTx_link (b : Vector Byte 12) (n : Byte) (s : State) : (s.setTx b n).link = s.link := rfl
@[simp] theorem State.setTx_host (b : Vector Byte 12) (n : Byte) (s : State) : (s.setTx b n).host = s.host := rfl
@[simp] theorem State.setTx_resetLine (b : Vector Byte 12) (n : Byte) (s : State) : (s.setTx b n).resetLine = s.resetLine := rfl
@[simp] theorem State.setTx_resets (b : Vector Byte 12) (n : Byte) (s : State) : (s.setTx b n).resets = s.resets := rfl
@[simp] theorem State.setTx_grain (b : Vector Byte 12) (n : Byte) (s : State) : (s.setTx b n).grain = s.grain := rfl

/-! ### setRb -/

@[simp] theorem State.setRb_params (b : Vector Byte 160) (s : State) : (s.setRb b).params = s.params := rfl
@[simp] theorem State.setRb_rb (b : Vector Byte 160) (s : State) : (s.setRb b).rb = b := rfl
@[simp] theorem State.setRb_txb (b : Vector Byte 160) (s : State) : (s.setRb b).txb = s.txb := rfl
@[simp] theorem State.setRb_txlen (b : Vector Byte 160) (s : State) : (s.setRb b).txlen = s.txlen := rfl
@[simp] theorem State.setRb_rxb (b : Vector Byte 160) (s : State) : (s.setRb b).rxb = s.rxb := rfl
@[simp] theorem State.setRb_tile (b : Vector Byte 160) (s : State) : (s.setRb b).tile = s.tile := rfl
@[simp] theorem State.setRb_ops (b : Vector Byte 160) (s : State) : (s.setRb b).ops = s.ops := rfl
@[simp] theorem State.setRb_cfg (b : Vector Byte 160) (s : State) : (s.setRb b).cfg = s.cfg := rfl
@[simp] theorem State.setRb_phase (b : Vector Byte 160) (s : State) : (s.setRb b).phase = s.phase := rfl
@[simp] theorem State.setRb_pkt (b : Vector Byte 160) (s : State) : (s.setRb b).pkt = s.pkt := rfl
@[simp] theorem State.setRb_idx (b : Vector Byte 160) (s : State) : (s.setRb b).idx = s.idx := rfl
@[simp] theorem State.setRb_att (b : Vector Byte 160) (s : State) : (s.setRb b).att = s.att := rfl
@[simp] theorem State.setRb_status (b : Vector Byte 160) (s : State) : (s.setRb b).status = s.status := rfl
@[simp] theorem State.setRb_einfo (b : Vector Byte 160) (s : State) : (s.setRb b).einfo = s.einfo := rfl
@[simp] theorem State.setRb_fb (b : Vector Byte 160) (s : State) : (s.setRb b).fb = s.fb := rfl
@[simp] theorem State.setRb_ie (b : Vector Byte 160) (s : State) : (s.setRb b).ie = s.ie := rfl
@[simp] theorem State.setRb_cmdQueue (b : Vector Byte 160) (s : State) : (s.setRb b).cmdQueue = s.cmdQueue := rfl
@[simp] theorem State.setRb_trace (b : Vector Byte 160) (s : State) : (s.setRb b).trace = s.trace := rfl
@[simp] theorem State.setRb_link (b : Vector Byte 160) (s : State) : (s.setRb b).link = s.link := rfl
@[simp] theorem State.setRb_host (b : Vector Byte 160) (s : State) : (s.setRb b).host = s.host := rfl
@[simp] theorem State.setRb_resetLine (b : Vector Byte 160) (s : State) : (s.setRb b).resetLine = s.resetLine := rfl
@[simp] theorem State.setRb_resets (b : Vector Byte 160) (s : State) : (s.setRb b).resets = s.resets := rfl
@[simp] theorem State.setRb_grain (b : Vector Byte 160) (s : State) : (s.setRb b).grain = s.grain := rfl

/-! ### setRxb -/

@[simp] theorem State.setRxb_params (b : Byte) (s : State) : (s.setRxb b).params = s.params := rfl
@[simp] theorem State.setRxb_rb (b : Byte) (s : State) : (s.setRxb b).rb = s.rb := rfl
@[simp] theorem State.setRxb_txb (b : Byte) (s : State) : (s.setRxb b).txb = s.txb := rfl
@[simp] theorem State.setRxb_txlen (b : Byte) (s : State) : (s.setRxb b).txlen = s.txlen := rfl
@[simp] theorem State.setRxb_rxb (b : Byte) (s : State) : (s.setRxb b).rxb = b := rfl
@[simp] theorem State.setRxb_tile (b : Byte) (s : State) : (s.setRxb b).tile = s.tile := rfl
@[simp] theorem State.setRxb_ops (b : Byte) (s : State) : (s.setRxb b).ops = s.ops := rfl
@[simp] theorem State.setRxb_cfg (b : Byte) (s : State) : (s.setRxb b).cfg = s.cfg := rfl
@[simp] theorem State.setRxb_phase (b : Byte) (s : State) : (s.setRxb b).phase = s.phase := rfl
@[simp] theorem State.setRxb_pkt (b : Byte) (s : State) : (s.setRxb b).pkt = s.pkt := rfl
@[simp] theorem State.setRxb_idx (b : Byte) (s : State) : (s.setRxb b).idx = s.idx := rfl
@[simp] theorem State.setRxb_att (b : Byte) (s : State) : (s.setRxb b).att = s.att := rfl
@[simp] theorem State.setRxb_status (b : Byte) (s : State) : (s.setRxb b).status = s.status := rfl
@[simp] theorem State.setRxb_einfo (b : Byte) (s : State) : (s.setRxb b).einfo = s.einfo := rfl
@[simp] theorem State.setRxb_fb (b : Byte) (s : State) : (s.setRxb b).fb = s.fb := rfl
@[simp] theorem State.setRxb_ie (b : Byte) (s : State) : (s.setRxb b).ie = s.ie := rfl
@[simp] theorem State.setRxb_cmdQueue (b : Byte) (s : State) : (s.setRxb b).cmdQueue = s.cmdQueue := rfl
@[simp] theorem State.setRxb_trace (b : Byte) (s : State) : (s.setRxb b).trace = s.trace := rfl
@[simp] theorem State.setRxb_link (b : Byte) (s : State) : (s.setRxb b).link = s.link := rfl
@[simp] theorem State.setRxb_host (b : Byte) (s : State) : (s.setRxb b).host = s.host := rfl
@[simp] theorem State.setRxb_resetLine (b : Byte) (s : State) : (s.setRxb b).resetLine = s.resetLine := rfl
@[simp] theorem State.setRxb_resets (b : Byte) (s : State) : (s.setRxb b).resets = s.resets := rfl
@[simp] theorem State.setRxb_grain (b : Byte) (s : State) : (s.setRxb b).grain = s.grain := rfl

/-! ### setTile -/

@[simp] theorem State.setTile_params (t : TileLatches) (s : State) : (s.setTile t).params = s.params := rfl
@[simp] theorem State.setTile_rb (t : TileLatches) (s : State) : (s.setTile t).rb = s.rb := rfl
@[simp] theorem State.setTile_txb (t : TileLatches) (s : State) : (s.setTile t).txb = s.txb := rfl
@[simp] theorem State.setTile_txlen (t : TileLatches) (s : State) : (s.setTile t).txlen = s.txlen := rfl
@[simp] theorem State.setTile_rxb (t : TileLatches) (s : State) : (s.setTile t).rxb = s.rxb := rfl
@[simp] theorem State.setTile_tile (t : TileLatches) (s : State) : (s.setTile t).tile = t := rfl
@[simp] theorem State.setTile_ops (t : TileLatches) (s : State) : (s.setTile t).ops = s.ops := rfl
@[simp] theorem State.setTile_cfg (t : TileLatches) (s : State) : (s.setTile t).cfg = s.cfg := rfl
@[simp] theorem State.setTile_phase (t : TileLatches) (s : State) : (s.setTile t).phase = s.phase := rfl
@[simp] theorem State.setTile_pkt (t : TileLatches) (s : State) : (s.setTile t).pkt = s.pkt := rfl
@[simp] theorem State.setTile_idx (t : TileLatches) (s : State) : (s.setTile t).idx = s.idx := rfl
@[simp] theorem State.setTile_att (t : TileLatches) (s : State) : (s.setTile t).att = s.att := rfl
@[simp] theorem State.setTile_status (t : TileLatches) (s : State) : (s.setTile t).status = s.status := rfl
@[simp] theorem State.setTile_einfo (t : TileLatches) (s : State) : (s.setTile t).einfo = s.einfo := rfl
@[simp] theorem State.setTile_fb (t : TileLatches) (s : State) : (s.setTile t).fb = s.fb := rfl
@[simp] theorem State.setTile_ie (t : TileLatches) (s : State) : (s.setTile t).ie = s.ie := rfl
@[simp] theorem State.setTile_cmdQueue (t : TileLatches) (s : State) : (s.setTile t).cmdQueue = s.cmdQueue := rfl
@[simp] theorem State.setTile_trace (t : TileLatches) (s : State) : (s.setTile t).trace = s.trace := rfl
@[simp] theorem State.setTile_link (t : TileLatches) (s : State) : (s.setTile t).link = s.link := rfl
@[simp] theorem State.setTile_host (t : TileLatches) (s : State) : (s.setTile t).host = s.host := rfl
@[simp] theorem State.setTile_resetLine (t : TileLatches) (s : State) : (s.setTile t).resetLine = s.resetLine := rfl
@[simp] theorem State.setTile_resets (t : TileLatches) (s : State) : (s.setTile t).resets = s.resets := rfl
@[simp] theorem State.setTile_grain (t : TileLatches) (s : State) : (s.setTile t).grain = s.grain := rfl

/-! ### setLink -/

@[simp] theorem State.setLink_params (l : LinkLayer) (s : State) : (s.setLink l).params = s.params := rfl
@[simp] theorem State.setLink_rb (l : LinkLayer) (s : State) : (s.setLink l).rb = s.rb := rfl
@[simp] theorem State.setLink_txb (l : LinkLayer) (s : State) : (s.setLink l).txb = s.txb := rfl
@[simp] theorem State.setLink_txlen (l : LinkLayer) (s : State) : (s.setLink l).txlen = s.txlen := rfl
@[simp] theorem State.setLink_rxb (l : LinkLayer) (s : State) : (s.setLink l).rxb = s.rxb := rfl
@[simp] theorem State.setLink_tile (l : LinkLayer) (s : State) : (s.setLink l).tile = s.tile := rfl
@[simp] theorem State.setLink_ops (l : LinkLayer) (s : State) : (s.setLink l).ops = s.ops := rfl
@[simp] theorem State.setLink_cfg (l : LinkLayer) (s : State) : (s.setLink l).cfg = s.cfg := rfl
@[simp] theorem State.setLink_phase (l : LinkLayer) (s : State) : (s.setLink l).phase = s.phase := rfl
@[simp] theorem State.setLink_pkt (l : LinkLayer) (s : State) : (s.setLink l).pkt = s.pkt := rfl
@[simp] theorem State.setLink_idx (l : LinkLayer) (s : State) : (s.setLink l).idx = s.idx := rfl
@[simp] theorem State.setLink_att (l : LinkLayer) (s : State) : (s.setLink l).att = s.att := rfl
@[simp] theorem State.setLink_status (l : LinkLayer) (s : State) : (s.setLink l).status = s.status := rfl
@[simp] theorem State.setLink_einfo (l : LinkLayer) (s : State) : (s.setLink l).einfo = s.einfo := rfl
@[simp] theorem State.setLink_fb (l : LinkLayer) (s : State) : (s.setLink l).fb = s.fb := rfl
@[simp] theorem State.setLink_ie (l : LinkLayer) (s : State) : (s.setLink l).ie = s.ie := rfl
@[simp] theorem State.setLink_cmdQueue (l : LinkLayer) (s : State) : (s.setLink l).cmdQueue = s.cmdQueue := rfl
@[simp] theorem State.setLink_trace (l : LinkLayer) (s : State) : (s.setLink l).trace = s.trace := rfl
@[simp] theorem State.setLink_link (l : LinkLayer) (s : State) : (s.setLink l).link = l := rfl
@[simp] theorem State.setLink_host (l : LinkLayer) (s : State) : (s.setLink l).host = s.host := rfl
@[simp] theorem State.setLink_resetLine (l : LinkLayer) (s : State) : (s.setLink l).resetLine = s.resetLine := rfl
@[simp] theorem State.setLink_resets (l : LinkLayer) (s : State) : (s.setLink l).resets = s.resets := rfl
@[simp] theorem State.setLink_grain (l : LinkLayer) (s : State) : (s.setLink l).grain = s.grain := rfl

/-! ### setHost -/

@[simp] theorem State.setHost_params (h : Coordinator) (s : State) : (s.setHost h).params = s.params := rfl
@[simp] theorem State.setHost_rb (h : Coordinator) (s : State) : (s.setHost h).rb = s.rb := rfl
@[simp] theorem State.setHost_txb (h : Coordinator) (s : State) : (s.setHost h).txb = s.txb := rfl
@[simp] theorem State.setHost_txlen (h : Coordinator) (s : State) : (s.setHost h).txlen = s.txlen := rfl
@[simp] theorem State.setHost_rxb (h : Coordinator) (s : State) : (s.setHost h).rxb = s.rxb := rfl
@[simp] theorem State.setHost_tile (h : Coordinator) (s : State) : (s.setHost h).tile = s.tile := rfl
@[simp] theorem State.setHost_ops (h : Coordinator) (s : State) : (s.setHost h).ops = s.ops := rfl
@[simp] theorem State.setHost_cfg (h : Coordinator) (s : State) : (s.setHost h).cfg = s.cfg := rfl
@[simp] theorem State.setHost_phase (h : Coordinator) (s : State) : (s.setHost h).phase = s.phase := rfl
@[simp] theorem State.setHost_pkt (h : Coordinator) (s : State) : (s.setHost h).pkt = s.pkt := rfl
@[simp] theorem State.setHost_idx (h : Coordinator) (s : State) : (s.setHost h).idx = s.idx := rfl
@[simp] theorem State.setHost_att (h : Coordinator) (s : State) : (s.setHost h).att = s.att := rfl
@[simp] theorem State.setHost_status (h : Coordinator) (s : State) : (s.setHost h).status = s.status := rfl
@[simp] theorem State.setHost_einfo (h : Coordinator) (s : State) : (s.setHost h).einfo = s.einfo := rfl
@[simp] theorem State.setHost_fb (h : Coordinator) (s : State) : (s.setHost h).fb = s.fb := rfl
@[simp] theorem State.setHost_ie (h : Coordinator) (s : State) : (s.setHost h).ie = s.ie := rfl
@[simp] theorem State.setHost_cmdQueue (h : Coordinator) (s : State) : (s.setHost h).cmdQueue = s.cmdQueue := rfl
@[simp] theorem State.setHost_trace (h : Coordinator) (s : State) : (s.setHost h).trace = s.trace := rfl
@[simp] theorem State.setHost_link (h : Coordinator) (s : State) : (s.setHost h).link = s.link := rfl
@[simp] theorem State.setHost_host (h : Coordinator) (s : State) : (s.setHost h).host = h := rfl
@[simp] theorem State.setHost_resetLine (h : Coordinator) (s : State) : (s.setHost h).resetLine = s.resetLine := rfl
@[simp] theorem State.setHost_resets (h : Coordinator) (s : State) : (s.setHost h).resets = s.resets := rfl
@[simp] theorem State.setHost_grain (h : Coordinator) (s : State) : (s.setHost h).grain = s.grain := rfl

/-! ### setIe -/

@[simp] theorem State.setIe_params (v : Nat) (s : State) : (s.setIe v).params = s.params := rfl
@[simp] theorem State.setIe_rb (v : Nat) (s : State) : (s.setIe v).rb = s.rb := rfl
@[simp] theorem State.setIe_txb (v : Nat) (s : State) : (s.setIe v).txb = s.txb := rfl
@[simp] theorem State.setIe_txlen (v : Nat) (s : State) : (s.setIe v).txlen = s.txlen := rfl
@[simp] theorem State.setIe_rxb (v : Nat) (s : State) : (s.setIe v).rxb = s.rxb := rfl
@[simp] theorem State.setIe_tile (v : Nat) (s : State) : (s.setIe v).tile = s.tile := rfl
@[simp] theorem State.setIe_ops (v : Nat) (s : State) : (s.setIe v).ops = s.ops := rfl
@[simp] theorem State.setIe_cfg (v : Nat) (s : State) : (s.setIe v).cfg = s.cfg := rfl
@[simp] theorem State.setIe_phase (v : Nat) (s : State) : (s.setIe v).phase = s.phase := rfl
@[simp] theorem State.setIe_pkt (v : Nat) (s : State) : (s.setIe v).pkt = s.pkt := rfl
@[simp] theorem State.setIe_idx (v : Nat) (s : State) : (s.setIe v).idx = s.idx := rfl
@[simp] theorem State.setIe_att (v : Nat) (s : State) : (s.setIe v).att = s.att := rfl
@[simp] theorem State.setIe_status (v : Nat) (s : State) : (s.setIe v).status = s.status := rfl
@[simp] theorem State.setIe_einfo (v : Nat) (s : State) : (s.setIe v).einfo = s.einfo := rfl
@[simp] theorem State.setIe_fb (v : Nat) (s : State) : (s.setIe v).fb = s.fb := rfl
@[simp] theorem State.setIe_ie (v : Nat) (s : State) : (s.setIe v).ie = v := rfl
@[simp] theorem State.setIe_cmdQueue (v : Nat) (s : State) : (s.setIe v).cmdQueue = s.cmdQueue := rfl
@[simp] theorem State.setIe_trace (v : Nat) (s : State) : (s.setIe v).trace = s.trace := rfl
@[simp] theorem State.setIe_link (v : Nat) (s : State) : (s.setIe v).link = s.link := rfl
@[simp] theorem State.setIe_host (v : Nat) (s : State) : (s.setIe v).host = s.host := rfl
@[simp] theorem State.setIe_resetLine (v : Nat) (s : State) : (s.setIe v).resetLine = s.resetLine := rfl
@[simp] theorem State.setIe_resets (v : Nat) (s : State) : (s.setIe v).resets = s.resets := rfl
@[simp] theorem State.setIe_grain (v : Nat) (s : State) : (s.setIe v).grain = s.grain := rfl

/-! ### setQueue -/

@[simp] theorem State.setQueue_params (q : List CmdWord) (s : State) : (s.setQueue q).params = s.params := rfl
@[simp] theorem State.setQueue_rb (q : List CmdWord) (s : State) : (s.setQueue q).rb = s.rb := rfl
@[simp] theorem State.setQueue_txb (q : List CmdWord) (s : State) : (s.setQueue q).txb = s.txb := rfl
@[simp] theorem State.setQueue_txlen (q : List CmdWord) (s : State) : (s.setQueue q).txlen = s.txlen := rfl
@[simp] theorem State.setQueue_rxb (q : List CmdWord) (s : State) : (s.setQueue q).rxb = s.rxb := rfl
@[simp] theorem State.setQueue_tile (q : List CmdWord) (s : State) : (s.setQueue q).tile = s.tile := rfl
@[simp] theorem State.setQueue_ops (q : List CmdWord) (s : State) : (s.setQueue q).ops = s.ops := rfl
@[simp] theorem State.setQueue_cfg (q : List CmdWord) (s : State) : (s.setQueue q).cfg = s.cfg := rfl
@[simp] theorem State.setQueue_phase (q : List CmdWord) (s : State) : (s.setQueue q).phase = s.phase := rfl
@[simp] theorem State.setQueue_pkt (q : List CmdWord) (s : State) : (s.setQueue q).pkt = s.pkt := rfl
@[simp] theorem State.setQueue_idx (q : List CmdWord) (s : State) : (s.setQueue q).idx = s.idx := rfl
@[simp] theorem State.setQueue_att (q : List CmdWord) (s : State) : (s.setQueue q).att = s.att := rfl
@[simp] theorem State.setQueue_status (q : List CmdWord) (s : State) : (s.setQueue q).status = s.status := rfl
@[simp] theorem State.setQueue_einfo (q : List CmdWord) (s : State) : (s.setQueue q).einfo = s.einfo := rfl
@[simp] theorem State.setQueue_fb (q : List CmdWord) (s : State) : (s.setQueue q).fb = s.fb := rfl
@[simp] theorem State.setQueue_ie (q : List CmdWord) (s : State) : (s.setQueue q).ie = s.ie := rfl
@[simp] theorem State.setQueue_cmdQueue (q : List CmdWord) (s : State) : (s.setQueue q).cmdQueue = q := rfl
@[simp] theorem State.setQueue_trace (q : List CmdWord) (s : State) : (s.setQueue q).trace = s.trace := rfl
@[simp] theorem State.setQueue_link (q : List CmdWord) (s : State) : (s.setQueue q).link = s.link := rfl
@[simp] theorem State.setQueue_host (q : List CmdWord) (s : State) : (s.setQueue q).host = s.host := rfl
@[simp] theorem State.setQueue_resetLine (q : List CmdWord) (s : State) : (s.setQueue q).resetLine = s.resetLine := rfl
@[simp] theorem State.setQueue_resets (q : List CmdWord) (s : State) : (s.setQueue q).resets = s.resets := rfl
@[simp] theorem State.setQueue_grain (q : List CmdWord) (s : State) : (s.setQueue q).grain = s.grain := rfl

/-! ### accept -/

@[simp] theorem accept_params (i : Instr) (s : State) : (accept i s).params = s.params := rfl
@[simp] theorem accept_rb (i : Instr) (s : State) : (accept i s).rb = s.rb := rfl
@[simp] theorem accept_txb (i : Instr) (s : State) : (accept i s).txb = s.txb := rfl
@[simp] theorem accept_txlen (i : Instr) (s : State) : (accept i s).txlen = s.txlen := rfl
@[simp] theorem accept_rxb (i : Instr) (s : State) : (accept i s).rxb = s.rxb := rfl
@[simp] theorem accept_tile (i : Instr) (s : State) : (accept i s).tile = s.tile := rfl
@[simp] theorem accept_ops (i : Instr) (s : State) : (accept i s).ops = OperandLatches.ofInstr i := rfl
@[simp] theorem accept_phase (i : Instr) (s : State) : (accept i s).phase = s.phase := rfl
@[simp] theorem accept_pkt (i : Instr) (s : State) : (accept i s).pkt = s.pkt := rfl
@[simp] theorem accept_idx (i : Instr) (s : State) : (accept i s).idx = s.idx := rfl
@[simp] theorem accept_att (i : Instr) (s : State) : (accept i s).att = s.att := rfl
@[simp] theorem accept_status (i : Instr) (s : State) : (accept i s).status = Status.accepted := rfl
@[simp] theorem accept_einfo (i : Instr) (s : State) : (accept i s).einfo = 0 := rfl
@[simp] theorem accept_fb (i : Instr) (s : State) : (accept i s).fb = s.fb := rfl
@[simp] theorem accept_ie (i : Instr) (s : State) : (accept i s).ie = s.ie := rfl
@[simp] theorem accept_cmdQueue (i : Instr) (s : State) : (accept i s).cmdQueue = s.cmdQueue := rfl
@[simp] theorem accept_trace (i : Instr) (s : State) : (accept i s).trace = s.trace := rfl
@[simp] theorem accept_link (i : Instr) (s : State) : (accept i s).link = s.link := rfl
@[simp] theorem accept_host (i : Instr) (s : State) : (accept i s).host = s.host := rfl
@[simp] theorem accept_resetLine (i : Instr) (s : State) : (accept i s).resetLine = s.resetLine := rfl
@[simp] theorem accept_resets (i : Instr) (s : State) : (accept i s).resets = s.resets := rfl
@[simp] theorem accept_grain (i : Instr) (s : State) : (accept i s).grain = s.grain := rfl

/-! ### complete -/

@[simp] theorem complete_params (ok : Bool) (s : State) : (complete ok s).params = s.params := rfl
@[simp] theorem complete_rb (ok : Bool) (s : State) : (complete ok s).rb = s.rb := rfl
@[simp] theorem complete_txb (ok : Bool) (s : State) : (complete ok s).txb = s.txb := rfl
@[simp] theorem complete_txlen (ok : Bool) (s : State) : (complete ok s).txlen = s.txlen := rfl
@[simp] theorem complete_rxb (ok : Bool) (s : State) : (complete ok s).rxb = s.rxb := rfl
@[simp] theorem complete_tile (ok : Bool) (s : State) : (complete ok s).tile = s.tile := rfl
@[simp] theorem complete_ops (ok : Bool) (s : State) : (complete ok s).ops = s.ops := rfl
@[simp] theorem complete_cfg (ok : Bool) (s : State) : (complete ok s).cfg = s.cfg := rfl
@[simp] theorem complete_phase (ok : Bool) (s : State) : (complete ok s).phase = .idle := rfl
@[simp] theorem complete_pkt (ok : Bool) (s : State) : (complete ok s).pkt = s.pkt := rfl
@[simp] theorem complete_idx (ok : Bool) (s : State) : (complete ok s).idx = s.idx := rfl
@[simp] theorem complete_att (ok : Bool) (s : State) : (complete ok s).att = s.att := rfl
@[simp] theorem complete_status (ok : Bool) (s : State) : (complete ok s).status = Status.completed ok := rfl
@[simp] theorem complete_einfo (ok : Bool) (s : State) : (complete ok s).einfo = s.einfo := rfl
@[simp] theorem complete_fb (ok : Bool) (s : State) : (complete ok s).fb = s.fb := rfl
@[simp] theorem complete_ie (ok : Bool) (s : State) : (complete ok s).ie = s.ie := rfl
@[simp] theorem complete_cmdQueue (ok : Bool) (s : State) : (complete ok s).cmdQueue = s.cmdQueue := rfl
@[simp] theorem complete_trace (ok : Bool) (s : State) : (complete ok s).trace = s.trace := rfl
@[simp] theorem complete_link (ok : Bool) (s : State) : (complete ok s).link = s.link := rfl
@[simp] theorem complete_host (ok : Bool) (s : State) : (complete ok s).host = s.host := rfl
@[simp] theorem complete_resetLine (ok : Bool) (s : State) : (complete ok s).resetLine = s.resetLine := rfl
@[simp] theorem complete_resets (ok : Bool) (s : State) : (complete ok s).resets = s.resets := rfl
@[simp] theorem complete_grain (ok : Bool) (s : State) : (complete ok s).grain = s.grain := rfl

/-! ### raise -/

@[simp] theorem raise_params (k : ErrorKind) (n : BitVec 16) (s : State) : (raise k n s).params = s.params := rfl
@[simp] theorem raise_rb (k : ErrorKind) (n : BitVec 16) (s : State) : (raise k n s).rb = s.rb := rfl
@[simp] theorem raise_txb (k : ErrorKind) (n : BitVec 16) (s : State) : (raise k n s).txb = s.txb := rfl
@[simp] theorem raise_txlen (k : ErrorKind) (n : BitVec 16) (s : State) : (raise k n s).txlen = s.txlen := rfl
@[simp] theorem raise_rxb (k : ErrorKind) (n : BitVec 16) (s : State) : (raise k n s).rxb = s.rxb := rfl
@[simp] theorem raise_tile (k : ErrorKind) (n : BitVec 16) (s : State) : (raise k n s).tile = s.tile := rfl
@[simp] theorem raise_ops (k : ErrorKind) (n : BitVec 16) (s : State) : (raise k n s).ops = s.ops := rfl
@[simp] theorem raise_cfg (k : ErrorKind) (n : BitVec 16) (s : State) : (raise k n s).cfg = s.cfg := rfl
@[simp] theorem raise_phase (k : ErrorKind) (n : BitVec 16) (s : State) : (raise k n s).phase = .idle := rfl
@[simp] theorem raise_pkt (k : ErrorKind) (n : BitVec 16) (s : State) : (raise k n s).pkt = s.pkt := rfl
@[simp] theorem raise_idx (k : ErrorKind) (n : BitVec 16) (s : State) : (raise k n s).idx = s.idx := rfl
@[simp] theorem raise_att (k : ErrorKind) (n : BitVec 16) (s : State) : (raise k n s).att = s.att := rfl
@[simp] theorem raise_status (k : ErrorKind) (n : BitVec 16) (s : State) : (raise k n s).status = Status.raised k := rfl
@[simp] theorem raise_einfo (k : ErrorKind) (n : BitVec 16) (s : State) : (raise k n s).einfo = n := rfl
@[simp] theorem raise_fb (k : ErrorKind) (n : BitVec 16) (s : State) : (raise k n s).fb = s.fb := rfl
@[simp] theorem raise_ie (k : ErrorKind) (n : BitVec 16) (s : State) : (raise k n s).ie = s.ie := rfl
@[simp] theorem raise_cmdQueue (k : ErrorKind) (n : BitVec 16) (s : State) : (raise k n s).cmdQueue = s.cmdQueue := rfl
@[simp] theorem raise_trace (k : ErrorKind) (n : BitVec 16) (s : State) : (raise k n s).trace = s.trace := rfl
@[simp] theorem raise_link (k : ErrorKind) (n : BitVec 16) (s : State) : (raise k n s).link = s.link := rfl
@[simp] theorem raise_host (k : ErrorKind) (n : BitVec 16) (s : State) : (raise k n s).host = s.host := rfl
@[simp] theorem raise_resetLine (k : ErrorKind) (n : BitVec 16) (s : State) : (raise k n s).resetLine = s.resetLine := rfl
@[simp] theorem raise_resets (k : ErrorKind) (n : BitVec 16) (s : State) : (raise k n s).resets = s.resets := rfl
@[simp] theorem raise_grain (k : ErrorKind) (n : BitVec 16) (s : State) : (raise k n s).grain = s.grain := rfl

@[simp] theorem accept_cfg_clr (s : State) : (accept .clr s).cfg = s.cfg := rfl
@[simp] theorem accept_cfg_asm (row : BitVec 5) (psel : PlaneSel) (s : State) :
    (accept (.asm row psel) s).cfg = ConfigLatches.sample s.fb := rfl
@[simp] theorem accept_cfg_tx1 (s : State) : (accept .tx1 s).cfg = s.cfg := rfl
@[simp] theorem accept_cfg_tx2 (plane : Plane) (s : State) : (accept (.tx2 plane) s).cfg = s.cfg := rfl

/-! ### drawUnspecified (R45) and the reset event (R270) -/

@[simp] theorem State.drawUnspecified_phase (n : Nat) (s : State) : (s.drawUnspecified n).phase = .idle := by dsimp only [State.drawUnspecified]
@[simp] theorem State.drawUnspecified_status (n : Nat) (s : State) : (s.drawUnspecified n).status = Status.reset := by dsimp only [State.drawUnspecified]
@[simp] theorem State.drawUnspecified_einfo (n : Nat) (s : State) : (s.drawUnspecified n).einfo = 0 := by dsimp only [State.drawUnspecified]
@[simp] theorem State.drawUnspecified_params (n : Nat) (s : State) : (s.drawUnspecified n).params = s.params := by dsimp only [State.drawUnspecified]
@[simp] theorem State.drawUnspecified_fb (n : Nat) (s : State) : (s.drawUnspecified n).fb = s.fb := by dsimp only [State.drawUnspecified]
@[simp] theorem State.drawUnspecified_ie (n : Nat) (s : State) : (s.drawUnspecified n).ie = s.ie := by dsimp only [State.drawUnspecified]
@[simp] theorem State.drawUnspecified_cmdQueue (n : Nat) (s : State) : (s.drawUnspecified n).cmdQueue = s.cmdQueue := by dsimp only [State.drawUnspecified]
@[simp] theorem State.drawUnspecified_trace (n : Nat) (s : State) : (s.drawUnspecified n).trace = s.trace := by dsimp only [State.drawUnspecified]
@[simp] theorem State.drawUnspecified_link (n : Nat) (s : State) : (s.drawUnspecified n).link = s.link := by dsimp only [State.drawUnspecified]
@[simp] theorem State.drawUnspecified_host (n : Nat) (s : State) : (s.drawUnspecified n).host = s.host := by dsimp only [State.drawUnspecified]
@[simp] theorem State.drawUnspecified_resetLine (n : Nat) (s : State) : (s.drawUnspecified n).resetLine = s.resetLine := by dsimp only [State.drawUnspecified]
@[simp] theorem State.drawUnspecified_resets (n : Nat) (s : State) : (s.drawUnspecified n).resets = s.resets := by dsimp only [State.drawUnspecified]
@[simp] theorem State.drawUnspecified_grain (n : Nat) (s : State) : (s.drawUnspecified n).grain = s.grain := by dsimp only [State.drawUnspecified]
@[simp] theorem resetEvent_phase (s : State) : (resetEvent s).phase = .idle := by dsimp only [resetEvent, State.drawUnspecified]
@[simp] theorem resetEvent_status (s : State) : (resetEvent s).status = Status.reset := by dsimp only [resetEvent, State.drawUnspecified]
@[simp] theorem resetEvent_einfo (s : State) : (resetEvent s).einfo = 0 := by dsimp only [resetEvent, State.drawUnspecified]
@[simp] theorem resetEvent_params (s : State) : (resetEvent s).params = s.params := by dsimp only [resetEvent, State.drawUnspecified]
@[simp] theorem resetEvent_fb (s : State) : (resetEvent s).fb = s.fb := by dsimp only [resetEvent, State.drawUnspecified]
@[simp] theorem resetEvent_ie (s : State) : (resetEvent s).ie = s.ie := by dsimp only [resetEvent, State.drawUnspecified]
@[simp] theorem resetEvent_cmdQueue (s : State) : (resetEvent s).cmdQueue = s.cmdQueue := by dsimp only [resetEvent, State.drawUnspecified]
@[simp] theorem resetEvent_trace (s : State) : (resetEvent s).trace = s.trace := by dsimp only [resetEvent, State.drawUnspecified]
@[simp] theorem resetEvent_link (s : State) : (resetEvent s).link = s.link := by dsimp only [resetEvent, State.drawUnspecified]
@[simp] theorem resetEvent_host (s : State) : (resetEvent s).host = s.host := by dsimp only [resetEvent, State.drawUnspecified]
@[simp] theorem resetEvent_resetLine (s : State) : (resetEvent s).resetLine = false := by dsimp only [resetEvent]
@[simp] theorem resetEvent_resets (s : State) : (resetEvent s).resets = s.resets + 1 := by dsimp only [resetEvent]
@[simp] theorem resetEvent_grain (s : State) : (resetEvent s).grain = s.grain := by dsimp only [resetEvent, State.drawUnspecified]

end Sys2Proof.Machine
end

