-- ==== Sys2Proof/Laws/Link.lean ====
section
/-! SUPPORT. The link layer's answers and the four transactions: what each takes from the link, what it records, and what it
leaves alone. -/

namespace Sys2Proof.Machine

/-! ### One answer taken -/

theorem LinkLayer.nextSend_fst (l : LinkLayer) : l.nextSend.1 = l.sendAnswer 0 := by
  unfold LinkLayer.nextSend LinkLayer.sendAnswer
  cases l.sendScript <;> simp

theorem LinkLayer.sendAnswer_nextSend (l : LinkLayer) (n : Nat) : l.nextSend.2.sendAnswer n = l.sendAnswer (n + 1) := by
  unfold LinkLayer.nextSend LinkLayer.sendAnswer
  cases l.sendScript with
  | nil => simp [Nat.add_assoc, Nat.add_comm 1]
  | cons a as => simp

theorem LinkLayer.nextRead_fst (l : LinkLayer) : l.nextRead.1 = l.readAnswer 0 := by
  unfold LinkLayer.nextRead LinkLayer.readAnswer
  cases l.readScript <;> simp

theorem LinkLayer.readAnswer_nextRead (l : LinkLayer) (n : Nat) : l.nextRead.2.readAnswer n = l.readAnswer (n + 1) := by
  unfold LinkLayer.nextRead LinkLayer.readAnswer
  cases l.readScript with
  | nil => simp [Nat.add_assoc, Nat.add_comm 1]
  | cons a as => simp

theorem LinkLayer.readAnswer_nextSend (l : LinkLayer) (n : Nat) : l.nextSend.2.readAnswer n = l.readAnswer n := by
  unfold LinkLayer.nextSend LinkLayer.readAnswer
  cases l.sendScript <;> rfl

theorem LinkLayer.sendAnswer_nextRead (l : LinkLayer) (n : Nat) : l.nextRead.2.sendAnswer n = l.sendAnswer n := by
  unfold LinkLayer.nextRead LinkLayer.sendAnswer
  cases l.readScript <;> rfl

theorem LinkLayer.readAnswer_nextQuery (l : LinkLayer) (n : Nat) : l.nextQuery.2.readAnswer n = l.readAnswer n := by
  unfold LinkLayer.nextQuery LinkLayer.readAnswer
  cases l.queryScript <;> rfl

theorem LinkLayer.sendAnswer_nextQuery (l : LinkLayer) (n : Nat) : l.nextQuery.2.sendAnswer n = l.sendAnswer n := by
  unfold LinkLayer.nextQuery LinkLayer.sendAnswer
  cases l.queryScript <;> rfl

/-! ### Several answers taken -/

/-- The link layer after `n` packet sends. -/
def LinkLayer.afterSends : Nat → LinkLayer → LinkLayer
  | 0, l => l
  | n + 1, l => LinkLayer.afterSends n l.nextSend.2

/-- The link layer after `n` reads. -/
def LinkLayer.afterReads : Nat → LinkLayer → LinkLayer
  | 0, l => l
  | n + 1, l => LinkLayer.afterReads n l.nextRead.2

theorem LinkLayer.afterSends_add (m n : Nat) (l : LinkLayer) :
    LinkLayer.afterSends n (LinkLayer.afterSends m l) = LinkLayer.afterSends (m + n) l := by
  induction m generalizing l with
  | zero => simp [LinkLayer.afterSends]
  | succ m ih => rw [show m + 1 + n = m + n + 1 by omega]; exact ih _

theorem LinkLayer.sendAnswer_afterSends (m n : Nat) (l : LinkLayer) :
    (LinkLayer.afterSends m l).sendAnswer n = l.sendAnswer (m + n) := by
  induction m generalizing l with
  | zero => simp [LinkLayer.afterSends]
  | succ m ih =>
    rw [show m + 1 + n = m + n + 1 by omega, ← LinkLayer.sendAnswer_nextSend]
    exact ih _

theorem LinkLayer.readAnswer_afterSends (m n : Nat) (l : LinkLayer) :
    (LinkLayer.afterSends m l).readAnswer n = l.readAnswer n := by
  induction m generalizing l with
  | zero => rfl
  | succ m ih => exact (ih _).trans (LinkLayer.readAnswer_nextSend l n)

theorem LinkLayer.readAnswer_afterReads (m n : Nat) (l : LinkLayer) :
    (LinkLayer.afterReads m l).readAnswer n = l.readAnswer (m + n) := by
  induction m generalizing l with
  | zero => simp [LinkLayer.afterReads]
  | succ m ih =>
    rw [show m + 1 + n = m + n + 1 by omega, ← LinkLayer.readAnswer_nextRead]
    exact ih _

/-! ### The coming answers of a state -/

theorem sendsAnswered_iff (s : State) (as : List Bool) :
    s.sendsAnswered as ↔ ∀ n (h : n < as.length), s.link.sendAnswer n = as[n] := by
  unfold State.sendsAnswered
  rw [List.ext_get_iff]
  simp

/-- The coming answers depend on the link layer alone. -/
theorem sendsAnswered_congr {s t : State} (h : t.link = s.link) (as : List Bool) :
    t.sendsAnswered as ↔ s.sendsAnswered as := by
  rw [sendsAnswered_iff, sendsAnswered_iff, h]

theorem sendsAnswered_append (s : State) (as bs : List Bool) :
    s.sendsAnswered (as ++ bs) ↔
      s.sendsAnswered as ∧ (s.setLink (LinkLayer.afterSends as.length s.link)).sendsAnswered bs := by
  simp only [sendsAnswered_iff, State.setLink_link, LinkLayer.sendAnswer_afterSends, List.length_append]
  constructor
  · intro h
    refine ⟨fun n hn => ?_, fun n hn => ?_⟩
    · rw [h n (by omega), List.getElem_append_left hn]
    · rw [h (as.length + n) (by omega), List.getElem_append_right (by omega)]
      simp
  · rintro ⟨h1, h2⟩ n hn
    by_cases hl : n < as.length
    · rw [List.getElem_append_left hl, h1 n hl]
    · have := h2 (n - as.length) (by omega)
      rw [Nat.add_sub_cancel' (by omega)] at this
      rw [List.getElem_append_right (by omega), this]

theorem sendsAnswered_cons (s : State) (a : Bool) (as : List Bool) :
    s.sendsAnswered (a :: as) ↔
      s.link.nextSend.1 = a ∧ (s.setLink s.link.nextSend.2).sendsAnswered as := by
  rw [show a :: as = [a] ++ as from rfl, sendsAnswered_append]
  refine and_congr ?_ Iff.rfl
  rw [sendsAnswered_iff, LinkLayer.nextSend_fst]
  constructor
  · intro h
    exact h 0 (by simp)
  · intro h n hn
    have : n = 0 := by simpa using hn
    subst this
    simpa using h

/-! ### The transactions -/

/-- Everything a `LinkSendCmdBuf` does: its answer is the link's next one, and it writes the trace and the link layer only. -/
theorem linkSendCmdBuf_eq (cmd : Byte) (s : State) :
    linkSendCmdBuf cmd s = (s.link.nextSend.1,
      { s with
        link := s.link.nextSend.2
        trace := s.trace ++ [.cmdBuf cmd s.txlen s.txPayload s.link.nextSend.1] }) := rfl

/-- What RXB holds after a read that got the answer `a`. -/
def rxbAfter (a : Option Byte) (old : Byte) : Byte := a.getD old

/-- Everything a `LinkReadWait` does: it writes RXB, the trace and the link layer only. -/
theorem linkReadWait_eq (ms : Nat) (s : State) :
    linkReadWait ms s =
      { s with
        rxb := rxbAfter s.link.nextRead.1 s.rxb
        link := s.link.nextRead.2
        trace := s.trace ++ [.readWait ms s.link.nextRead.1.isSome] } := by
  unfold linkReadWait State.receive rxbAfter
  cases s.link.nextRead.1 <;> rfl

/-- Everything a `LinkSendByte` does. -/
theorem linkSendByte_eq (b : Byte) (s : State) : linkSendByte b s = { s with trace := s.trace ++ [.sendByte b] } := rfl

/-- Everything a `Sleep` does. -/
theorem sleepMs_eq (ms : Nat) (s : State) : sleepMs ms s = { s with trace := s.trace ++ [.sleep ms] } := rfl

/-! ### Field by field -/

@[simp] theorem linkSendCmdBuf_snd_params (c : Byte) (s : State) : (linkSendCmdBuf c s).2.params = s.params := rfl
@[simp] theorem linkSendCmdBuf_snd_rb (c : Byte) (s : State) : (linkSendCmdBuf c s).2.rb = s.rb := rfl
@[simp] theorem linkSendCmdBuf_snd_txb (c : Byte) (s : State) : (linkSendCmdBuf c s).2.txb = s.txb := rfl
@[simp] theorem linkSendCmdBuf_snd_txlen (c : Byte) (s : State) : (linkSendCmdBuf c s).2.txlen = s.txlen := rfl
@[simp] theorem linkSendCmdBuf_snd_rxb (c : Byte) (s : State) : (linkSendCmdBuf c s).2.rxb = s.rxb := rfl
@[simp] theorem linkSendCmdBuf_snd_tile (c : Byte) (s : State) : (linkSendCmdBuf c s).2.tile = s.tile := rfl
@[simp] theorem linkSendCmdBuf_snd_ops (c : Byte) (s : State) : (linkSendCmdBuf c s).2.ops = s.ops := rfl
@[simp] theorem linkSendCmdBuf_snd_cfg (c : Byte) (s : State) : (linkSendCmdBuf c s).2.cfg = s.cfg := rfl
@[simp] theorem linkSendCmdBuf_snd_phase (c : Byte) (s : State) : (linkSendCmdBuf c s).2.phase = s.phase := rfl
@[simp] theorem linkSendCmdBuf_snd_pkt (c : Byte) (s : State) : (linkSendCmdBuf c s).2.pkt = s.pkt := rfl
@[simp] theorem linkSendCmdBuf_snd_idx (c : Byte) (s : State) : (linkSendCmdBuf c s).2.idx = s.idx := rfl
@[simp] theorem linkSendCmdBuf_snd_att (c : Byte) (s : State) : (linkSendCmdBuf c s).2.att = s.att := rfl
@[simp] theorem linkSendCmdBuf_snd_status (c : Byte) (s : State) : (linkSendCmdBuf c s).2.status = s.status := rfl
@[simp] theorem linkSendCmdBuf_snd_einfo (c : Byte) (s : State) : (linkSendCmdBuf c s).2.einfo = s.einfo := rfl
@[simp] theorem linkSendCmdBuf_snd_fb (c : Byte) (s : State) : (linkSendCmdBuf c s).2.fb = s.fb := rfl
@[simp] theorem linkSendCmdBuf_snd_ie (c : Byte) (s : State) : (linkSendCmdBuf c s).2.ie = s.ie := rfl
@[simp] theorem linkSendCmdBuf_snd_cmdQueue (c : Byte) (s : State) : (linkSendCmdBuf c s).2.cmdQueue = s.cmdQueue := rfl
@[simp] theorem linkSendCmdBuf_snd_trace (c : Byte) (s : State) : (linkSendCmdBuf c s).2.trace = s.trace ++ [.cmdBuf c s.txlen s.txPayload s.link.nextSend.1] := rfl
@[simp] theorem linkSendCmdBuf_snd_link (c : Byte) (s : State) : (linkSendCmdBuf c s).2.link = s.link.nextSend.2 := rfl
@[simp] theorem linkSendCmdBuf_snd_host (c : Byte) (s : State) : (linkSendCmdBuf c s).2.host = s.host := rfl
@[simp] theorem linkSendCmdBuf_snd_resetLine (c : Byte) (s : State) : (linkSendCmdBuf c s).2.resetLine = s.resetLine := rfl
@[simp] theorem linkSendCmdBuf_snd_resets (c : Byte) (s : State) : (linkSendCmdBuf c s).2.resets = s.resets := rfl
@[simp] theorem linkSendCmdBuf_snd_grain (c : Byte) (s : State) : (linkSendCmdBuf c s).2.grain = s.grain := rfl
@[simp] theorem linkSendCmdBuf_fst (c : Byte) (s : State) : (linkSendCmdBuf c s).1 = s.link.nextSend.1 := rfl
@[simp] theorem linkReadWait_params (ms : Nat) (s : State) : (linkReadWait ms s).params = s.params := by rw [linkReadWait_eq]
@[simp] theorem linkReadWait_rb (ms : Nat) (s : State) : (linkReadWait ms s).rb = s.rb := by rw [linkReadWait_eq]
@[simp] theorem linkReadWait_txb (ms : Nat) (s : State) : (linkReadWait ms s).txb = s.txb := by rw [linkReadWait_eq]
@[simp] theorem linkReadWait_txlen (ms : Nat) (s : State) : (linkReadWait ms s).txlen = s.txlen := by rw [linkReadWait_eq]
@[simp] theorem linkReadWait_rxb (ms : Nat) (s : State) : (linkReadWait ms s).rxb = rxbAfter s.link.nextRead.1 s.rxb := by rw [linkReadWait_eq]
@[simp] theorem linkReadWait_tile (ms : Nat) (s : State) : (linkReadWait ms s).tile = s.tile := by rw [linkReadWait_eq]
@[simp] theorem linkReadWait_ops (ms : Nat) (s : State) : (linkReadWait ms s).ops = s.ops := by rw [linkReadWait_eq]
@[simp] theorem linkReadWait_cfg (ms : Nat) (s : State) : (linkReadWait ms s).cfg = s.cfg := by rw [linkReadWait_eq]
@[simp] theorem linkReadWait_phase (ms : Nat) (s : State) : (linkReadWait ms s).phase = s.phase := by rw [linkReadWait_eq]
@[simp] theorem linkReadWait_pkt (ms : Nat) (s : State) : (linkReadWait ms s).pkt = s.pkt := by rw [linkReadWait_eq]
@[simp] theorem linkReadWait_idx (ms : Nat) (s : State) : (linkReadWait ms s).idx = s.idx := by rw [linkReadWait_eq]
@[simp] theorem linkReadWait_att (ms : Nat) (s : State) : (linkReadWait ms s).att = s.att := by rw [linkReadWait_eq]
@[simp] theorem linkReadWait_status (ms : Nat) (s : State) : (linkReadWait ms s).status = s.status := by rw [linkReadWait_eq]
@[simp] theorem linkReadWait_einfo (ms : Nat) (s : State) : (linkReadWait ms s).einfo = s.einfo := by rw [linkReadWait_eq]
@[simp] theorem linkReadWait_fb (ms : Nat) (s : State) : (linkReadWait ms s).fb = s.fb := by rw [linkReadWait_eq]
@[simp] theorem linkReadWait_ie (ms : Nat) (s : State) : (linkReadWait ms s).ie = s.ie := by rw [linkReadWait_eq]
@[simp] theorem linkReadWait_cmdQueue (ms : Nat) (s : State) : (linkReadWait ms s).cmdQueue = s.cmdQueue := by rw [linkReadWait_eq]
@[simp] theorem linkReadWait_trace (ms : Nat) (s : State) : (linkReadWait ms s).trace = s.trace ++ [.readWait ms s.link.nextRead.1.isSome] := by rw [linkReadWait_eq]
@[simp] theorem linkReadWait_link (ms : Nat) (s : State) : (linkReadWait ms s).link = s.link.nextRead.2 := by rw [linkReadWait_eq]
@[simp] theorem linkReadWait_host (ms : Nat) (s : State) : (linkReadWait ms s).host = s.host := by rw [linkReadWait_eq]
@[simp] theorem linkReadWait_resetLine (ms : Nat) (s : State) : (linkReadWait ms s).resetLine = s.resetLine := by rw [linkReadWait_eq]
@[simp] theorem linkReadWait_resets (ms : Nat) (s : State) : (linkReadWait ms s).resets = s.resets := by rw [linkReadWait_eq]
@[simp] theorem linkReadWait_grain (ms : Nat) (s : State) : (linkReadWait ms s).grain = s.grain := by rw [linkReadWait_eq]
@[simp] theorem linkSendByte_params (b : Byte) (s : State) : (linkSendByte b s).params = s.params := rfl
@[simp] theorem linkSendByte_rb (b : Byte) (s : State) : (linkSendByte b s).rb = s.rb := rfl
@[simp] theorem linkSendByte_txb (b : Byte) (s : State) : (linkSendByte b s).txb = s.txb := rfl
@[simp] theorem linkSendByte_txlen (b : Byte) (s : State) : (linkSendByte b s).txlen = s.txlen := rfl
@[simp] theorem linkSendByte_rxb (b : Byte) (s : State) : (linkSendByte b s).rxb = s.rxb := rfl
@[simp] theorem linkSendByte_tile (b : Byte) (s : State) : (linkSendByte b s).tile = s.tile := rfl
@[simp] theorem linkSendByte_ops (b : Byte) (s : State) : (linkSendByte b s).ops = s.ops := rfl
@[simp] theorem linkSendByte_cfg (b : Byte) (s : State) : (linkSendByte b s).cfg = s.cfg := rfl
@[simp] theorem linkSendByte_phase (b : Byte) (s : State) : (linkSendByte b s).phase = s.phase := rfl
@[simp] theorem linkSendByte_pkt (b : Byte) (s : State) : (linkSendByte b s).pkt = s.pkt := rfl
@[simp] theorem linkSendByte_idx (b : Byte) (s : State) : (linkSendByte b s).idx = s.idx := rfl
@[simp] theorem linkSendByte_att (b : Byte) (s : State) : (linkSendByte b s).att = s.att := rfl
@[simp] theorem linkSendByte_status (b : Byte) (s : State) : (linkSendByte b s).status = s.status := rfl
@[simp] theorem linkSendByte_einfo (b : Byte) (s : State) : (linkSendByte b s).einfo = s.einfo := rfl
@[simp] theorem linkSendByte_fb (b : Byte) (s : State) : (linkSendByte b s).fb = s.fb := rfl
@[simp] theorem linkSendByte_ie (b : Byte) (s : State) : (linkSendByte b s).ie = s.ie := rfl
@[simp] theorem linkSendByte_cmdQueue (b : Byte) (s : State) : (linkSendByte b s).cmdQueue = s.cmdQueue := rfl
@[simp] theorem linkSendByte_trace (b : Byte) (s : State) : (linkSendByte b s).trace = s.trace ++ [.sendByte b] := rfl
@[simp] theorem linkSendByte_link (b : Byte) (s : State) : (linkSendByte b s).link = s.link := rfl
@[simp] theorem linkSendByte_host (b : Byte) (s : State) : (linkSendByte b s).host = s.host := rfl
@[simp] theorem linkSendByte_resetLine (b : Byte) (s : State) : (linkSendByte b s).resetLine = s.resetLine := rfl
@[simp] theorem linkSendByte_resets (b : Byte) (s : State) : (linkSendByte b s).resets = s.resets := rfl
@[simp] theorem linkSendByte_grain (b : Byte) (s : State) : (linkSendByte b s).grain = s.grain := rfl
@[simp] theorem sleepMs_params (ms : Nat) (s : State) : (sleepMs ms s).params = s.params := rfl
@[simp] theorem sleepMs_rb (ms : Nat) (s : State) : (sleepMs ms s).rb = s.rb := rfl
@[simp] theorem sleepMs_txb (ms : Nat) (s : State) : (sleepMs ms s).txb = s.txb := rfl
@[simp] theorem sleepMs_txlen (ms : Nat) (s : State) : (sleepMs ms s).txlen = s.txlen := rfl
@[simp] theorem sleepMs_rxb (ms : Nat) (s : State) : (sleepMs ms s).rxb = s.rxb := rfl
@[simp] theorem sleepMs_tile (ms : Nat) (s : State) : (sleepMs ms s).tile = s.tile := rfl
@[simp] theorem sleepMs_ops (ms : Nat) (s : State) : (sleepMs ms s).ops = s.ops := rfl
@[simp] theorem sleepMs_cfg (ms : Nat) (s : State) : (sleepMs ms s).cfg = s.cfg := rfl
@[simp] theorem sleepMs_phase (ms : Nat) (s : State) : (sleepMs ms s).phase = s.phase := rfl
@[simp] theorem sleepMs_pkt (ms : Nat) (s : State) : (sleepMs ms s).pkt = s.pkt := rfl
@[simp] theorem sleepMs_idx (ms : Nat) (s : State) : (sleepMs ms s).idx = s.idx := rfl
@[simp] theorem sleepMs_att (ms : Nat) (s : State) : (sleepMs ms s).att = s.att := rfl
@[simp] theorem sleepMs_status (ms : Nat) (s : State) : (sleepMs ms s).status = s.status := rfl
@[simp] theorem sleepMs_einfo (ms : Nat) (s : State) : (sleepMs ms s).einfo = s.einfo := rfl
@[simp] theorem sleepMs_fb (ms : Nat) (s : State) : (sleepMs ms s).fb = s.fb := rfl
@[simp] theorem sleepMs_ie (ms : Nat) (s : State) : (sleepMs ms s).ie = s.ie := rfl
@[simp] theorem sleepMs_cmdQueue (ms : Nat) (s : State) : (sleepMs ms s).cmdQueue = s.cmdQueue := rfl
@[simp] theorem sleepMs_trace (ms : Nat) (s : State) : (sleepMs ms s).trace = s.trace ++ [.sleep ms] := rfl
@[simp] theorem sleepMs_link (ms : Nat) (s : State) : (sleepMs ms s).link = s.link := rfl
@[simp] theorem sleepMs_host (ms : Nat) (s : State) : (sleepMs ms s).host = s.host := rfl
@[simp] theorem sleepMs_resetLine (ms : Nat) (s : State) : (sleepMs ms s).resetLine = s.resetLine := rfl
@[simp] theorem sleepMs_resets (ms : Nat) (s : State) : (sleepMs ms s).resets = s.resets := rfl
@[simp] theorem sleepMs_grain (ms : Nat) (s : State) : (sleepMs ms s).grain = s.grain := rfl
@[simp] theorem raiseTimeout_params (s : State) : (raiseTimeout s).params = s.params := rfl
@[simp] theorem raiseTimeout_rb (s : State) : (raiseTimeout s).rb = s.rb := rfl
@[simp] theorem raiseTimeout_txb (s : State) : (raiseTimeout s).txb = s.txb := rfl
@[simp] theorem raiseTimeout_txlen (s : State) : (raiseTimeout s).txlen = s.txlen := rfl
@[simp] theorem raiseTimeout_rxb (s : State) : (raiseTimeout s).rxb = s.rxb := rfl
@[simp] theorem raiseTimeout_tile (s : State) : (raiseTimeout s).tile = s.tile := rfl
@[simp] theorem raiseTimeout_ops (s : State) : (raiseTimeout s).ops = s.ops := rfl
@[simp] theorem raiseTimeout_cfg (s : State) : (raiseTimeout s).cfg = s.cfg := rfl
@[simp] theorem raiseTimeout_phase (s : State) : (raiseTimeout s).phase = .idle := rfl
@[simp] theorem raiseTimeout_pkt (s : State) : (raiseTimeout s).pkt = s.pkt := rfl
@[simp] theorem raiseTimeout_idx (s : State) : (raiseTimeout s).idx = s.idx := rfl
@[simp] theorem raiseTimeout_att (s : State) : (raiseTimeout s).att = s.att := rfl
@[simp] theorem raiseTimeout_status (s : State) : (raiseTimeout s).status = Status.raised .packetSendTimeout := rfl
@[simp] theorem raiseTimeout_einfo (s : State) : (raiseTimeout s).einfo = s.pkt.setWidth 16 := rfl
@[simp] theorem raiseTimeout_fb (s : State) : (raiseTimeout s).fb = s.fb := rfl
@[simp] theorem raiseTimeout_ie (s : State) : (raiseTimeout s).ie = s.ie := rfl
@[simp] theorem raiseTimeout_cmdQueue (s : State) : (raiseTimeout s).cmdQueue = s.cmdQueue := rfl
@[simp] theorem raiseTimeout_trace (s : State) : (raiseTimeout s).trace = s.trace := rfl
@[simp] theorem raiseTimeout_link (s : State) : (raiseTimeout s).link = s.link := rfl
@[simp] theorem raiseTimeout_host (s : State) : (raiseTimeout s).host = s.host := rfl
@[simp] theorem raiseTimeout_resetLine (s : State) : (raiseTimeout s).resetLine = s.resetLine := rfl
@[simp] theorem raiseTimeout_resets (s : State) : (raiseTimeout s).resets = s.resets := rfl
@[simp] theorem raiseTimeout_grain (s : State) : (raiseTimeout s).grain = s.grain := rfl
@[simp] theorem raiseIllegal_params (w : CmdWord) (s : State) : (raiseIllegal w s).params = s.params := rfl
@[simp] theorem raiseIllegal_rb (w : CmdWord) (s : State) : (raiseIllegal w s).rb = s.rb := rfl
@[simp] theorem raiseIllegal_txb (w : CmdWord) (s : State) : (raiseIllegal w s).txb = s.txb := rfl
@[simp] theorem raiseIllegal_txlen (w : CmdWord) (s : State) : (raiseIllegal w s).txlen = s.txlen := rfl
@[simp] theorem raiseIllegal_rxb (w : CmdWord) (s : State) : (raiseIllegal w s).rxb = s.rxb := rfl
@[simp] theorem raiseIllegal_tile (w : CmdWord) (s : State) : (raiseIllegal w s).tile = s.tile := rfl
@[simp] theorem raiseIllegal_ops (w : CmdWord) (s : State) : (raiseIllegal w s).ops = s.ops := rfl
@[simp] theorem raiseIllegal_cfg (w : CmdWord) (s : State) : (raiseIllegal w s).cfg = s.cfg := rfl
@[simp] theorem raiseIllegal_phase (w : CmdWord) (s : State) : (raiseIllegal w s).phase = .idle := rfl
@[simp] theorem raiseIllegal_pkt (w : CmdWord) (s : State) : (raiseIllegal w s).pkt = s.pkt := rfl
@[simp] theorem raiseIllegal_idx (w : CmdWord) (s : State) : (raiseIllegal w s).idx = s.idx := rfl
@[simp] theorem raiseIllegal_att (w : CmdWord) (s : State) : (raiseIllegal w s).att = s.att := rfl
@[simp] theorem raiseIllegal_status (w : CmdWord) (s : State) : (raiseIllegal w s).status = Status.raised .illegalCommand := rfl
@[simp] theorem raiseIllegal_einfo (w : CmdWord) (s : State) : (raiseIllegal w s).einfo = w := rfl
@[simp] theorem raiseIllegal_fb (w : CmdWord) (s : State) : (raiseIllegal w s).fb = s.fb := rfl
@[simp] theorem raiseIllegal_ie (w : CmdWord) (s : State) : (raiseIllegal w s).ie = s.ie := rfl
@[simp] theorem raiseIllegal_cmdQueue (w : CmdWord) (s : State) : (raiseIllegal w s).cmdQueue = s.cmdQueue := rfl
@[simp] theorem raiseIllegal_trace (w : CmdWord) (s : State) : (raiseIllegal w s).trace = s.trace := rfl
@[simp] theorem raiseIllegal_link (w : CmdWord) (s : State) : (raiseIllegal w s).link = s.link := rfl
@[simp] theorem raiseIllegal_host (w : CmdWord) (s : State) : (raiseIllegal w s).host = s.host := rfl
@[simp] theorem raiseIllegal_resetLine (w : CmdWord) (s : State) : (raiseIllegal w s).resetLine = s.resetLine := rfl
@[simp] theorem raiseIllegal_resets (w : CmdWord) (s : State) : (raiseIllegal w s).resets = s.resets := rfl
@[simp] theorem raiseIllegal_grain (w : CmdWord) (s : State) : (raiseIllegal w s).grain = s.grain := rfl

end Sys2Proof.Machine
end

