-- ==== Sys2Proof/Laws/Memory.lean ====
section
/-! SUPPORT. The framebuffer's sparse lists: a write reads back and leaves every other key alone, every write keeps the
canonical form, and the memory of the reset state has it. -/

namespace Sys2Proof.Machine

variable {α : Type} [DecidableEq α] {d : α}

omit [DecidableEq α] in
/-- A key above which every listed key lies reads as unlisted. -/
theorem cellRead_of_lt {m : List (Nat × α)} {a : Nat} (h : ∀ c ∈ m, a < c.1) : cellRead d m a = d := by
  induction m with
  | nil => rfl
  | cons c m ih =>
    have hc : a < c.1 := h c (by simp)
    have hne : c.1 ≠ a := by omega
    simp only [cellRead, if_neg hne]
    exact ih fun x hx => h x (by simp [hx])

theorem cellsWf_nil : cellsWf d ([] : List (Nat × α)) := by simp [cellsWf]

theorem cellsWf_cons {c : Nat × α} {m : List (Nat × α)} :
    cellsWf d (c :: m) ↔ (∀ x ∈ m, c.1 < x.1) ∧ c.2 ≠ d ∧ cellsWf d m := by
  simp only [cellsWf, List.pairwise_cons, List.forall_mem_cons]
  tauto

/-- Whatever the list, a write changes no other key's value. -/
theorem cellRead_cellWrite_ne (m : List (Nat × α)) {a b : Nat} (v : α) (h : b ≠ a) :
    cellRead d (cellWrite d m a v) b = cellRead d m b := by
  induction m with
  | nil =>
    by_cases hv : v = d <;> simp [cellWrite, cellRead, hv, h.symm]
  | cons c m ih =>
    obtain ⟨k, w⟩ := c
    simp only [cellWrite]
    split
    · split <;> simp [cellRead, h.symm]
    · split
      · next hk =>
        subst hk
        split <;> simp [cellRead, h.symm]
      · simp only [cellRead, ih]

/-- In canonical form a write reads back. -/
theorem cellRead_cellWrite_eq {m : List (Nat × α)} (hm : cellsWf d m) (a : Nat) (v : α) :
    cellRead d (cellWrite d m a v) a = v := by
  induction m with
  | nil =>
    by_cases hv : v = d <;> simp [cellWrite, cellRead, hv]
  | cons c m ih =>
    obtain ⟨k, w⟩ := c
    obtain ⟨hlt, -, hm'⟩ := cellsWf_cons.1 hm
    simp only [cellWrite]
    split
    · next hak =>
      split
      · next hv =>
        subst hv
        refine cellRead_of_lt fun x hx => ?_
        rcases List.mem_cons.1 hx with rfl | hx
        · exact hak
        · exact Nat.lt_trans hak (hlt x hx)
      · simp [cellRead]
    · split
      · next hk =>
        subst hk
        split
        · next hv => subst hv; exact cellRead_of_lt fun x hx => hlt x hx
        · simp [cellRead]
      · next hk =>
        have hne : k ≠ a := fun h => hk h.symm
        simp only [cellRead, if_neg hne, ih hm']

/-- A write adds no key but its own. -/
theorem mem_cellWrite {m : List (Nat × α)} {a : Nat} {v : α} {x : Nat × α} (h : x ∈ cellWrite d m a v) :
    x ∈ m ∨ (x = (a, v) ∧ v ≠ d) := by
  induction m with
  | nil =>
    by_cases hv : v = d <;> simp_all [cellWrite]
  | cons c m ih =>
    obtain ⟨k, w⟩ := c
    simp only [cellWrite] at h
    split at h
    · split at h
      · exact .inl h
      · rcases List.mem_cons.1 h with rfl | h
        · exact .inr ⟨rfl, by assumption⟩
        · exact .inl h
    · split at h
      · split at h
        · exact .inl (List.mem_cons_of_mem _ h)
        · rcases List.mem_cons.1 h with rfl | h
          · exact .inr ⟨rfl, by assumption⟩
          · exact .inl (List.mem_cons_of_mem _ h)
      · rcases List.mem_cons.1 h with rfl | h
        · exact .inl (by simp)
        · exact (ih h).imp (List.mem_cons_of_mem _) id

/-- Every write keeps the canonical form. -/
theorem cellWrite_wf {m : List (Nat × α)} (hm : cellsWf d m) (a : Nat) (v : α) : cellsWf d (cellWrite d m a v) := by
  induction m with
  | nil =>
    by_cases hv : v = d
    · simpa [cellWrite, hv] using cellsWf_nil
    · simp only [cellWrite, if_neg hv]
      exact cellsWf_cons.2 ⟨by simp, hv, cellsWf_nil⟩
  | cons c m ih =>
    obtain ⟨k, w⟩ := c
    obtain ⟨hlt, hw, hm'⟩ := cellsWf_cons.1 hm
    simp only [cellWrite]
    split
    · next hak =>
      split
      · exact hm
      · next hv =>
        refine cellsWf_cons.2 ⟨fun x hx => ?_, hv, hm⟩
        rcases List.mem_cons.1 hx with rfl | hx
        · exact hak
        · exact Nat.lt_trans hak (hlt x hx)
    · next hak =>
      split
      · next hk =>
        subst hk
        split
        · exact hm'
        · next hv => exact cellsWf_cons.2 ⟨hlt, hv, hm'⟩
      · refine cellsWf_cons.2 ⟨fun x hx => ?_, hw, ih hm'⟩
        rcases mem_cellWrite hx with hx | ⟨rfl, -⟩
        · exact hlt x hx
        · show k < a
          omega

/-- Distinct map cells have distinct keys. -/
theorem mapKey_inj {c m c' m' : Fin 32} : mapKey c' m' = mapKey c m ↔ c' = c ∧ m' = m := by
  simp only [mapKey, Fin.ext_iff]
  omega

/-- Distinct pattern bytes have distinct keys. -/
theorem patternKey_inj {id id' : Nat} {k k' : Fin 16} : patternKey id' k' = patternKey id k ↔ id' = id ∧ k' = k := by
  simp only [patternKey, Fin.ext_iff]
  omega

theorem FrameBuffer.writeBkg_wf {fb : FrameBuffer} (h : fb.bkg.wf) (c m : Fin 32) (id : Nat) :
    (fb.writeBkg c m id).bkg.wf := cellWrite_wf h _ _

theorem FrameBuffer.writeWin_wf {fb : FrameBuffer} (h : fb.win.wf) (c m : Fin 32) (id : Nat) :
    (fb.writeWin c m id).win.wf := cellWrite_wf h _ _

theorem FrameBuffer.writePattern_wf {fb : FrameBuffer} (h : fb.pattern.wf) (id : Nat) (k : Fin 16) (b : Byte) :
    (fb.writePattern id k b).pattern.wf := cellWrite_wf h _ _

/-- The memory of the reset state is in canonical form. -/
theorem reset_memory_wf : State.reset.fb.bkg.wf ∧ State.reset.fb.win.wf ∧ State.reset.fb.pattern.wf :=
  ⟨cellsWf_nil, cellsWf_nil, cellsWf_nil⟩

end Sys2Proof.Machine
end

