-- ==== Sys2Proof/Laws/Transmitter.lean ====
section
/-! SUPPORT. What the operations the transmitters share can do: the retry wrapper, the packet loads and the packet loop, and the
byte phases of TX1, each as one closed form. -/

namespace Sys2Proof.Machine

/-! ### The retry wrapper (R163) -/

/-- What a run of attempts that ends in success at attempt `a` leaves. -/
def State.afterSuccess (f a : Nat) (s : State) : State :=
  { s with
    trace := s.trace ++ packetTrace s.params.cmdPrintSendBytes s.txlen s.txPayload f
    att := BitVec.ofNat 4 a
    link := LinkLayer.afterSends (f + 1) s.link }

/-- What a run of ten failed attempts leaves. -/
def State.afterExhaustion (s : State) : State :=
  { s with
    trace := s.trace ++ exhaustedTrace s.params.cmdPrintSendBytes s.txlen s.txPayload s.params.retrySleepAfterLast
    att := 10
    link := LinkLayer.afterSends 10 s.link }

/-- `left` attempts, of which the first `f` fail and the next succeeds. -/
theorem retryFrom_success (left : Nat) (s : State) (f : Nat) (hl : left ≤ 10) (hf : f < left)
    (h : s.sendsAnswered (failsThenSucceeds f)) :
    retryFrom left s = (true, s.afterSuccess f (10 - left + f + 1)) := by
  induction left generalizing s f with
  | zero => omega
  | succ left ih =>
    cases f with
    | zero =>
      obtain ⟨h0, -⟩ := (sendsAnswered_cons s true []).1 h
      simp only [retryFrom, linkSendCmdBuf_eq, State.setAtt_link, h0, if_true, Config.retryMax]
      simp [State.afterSuccess, State.setAtt, LinkLayer.afterSends, packetTrace, State.txPayload,
        show 10 - left = 10 - (left + 1) + 0 + 1 by omega]
    | succ f =>
      obtain ⟨h0, hrest⟩ := (sendsAnswered_cons s false (failsThenSucceeds f)).1 (by simpa [failsThenSucceeds, List.replicate_succ] using h)
      have hne : left ≠ 0 := by omega
      simp only [retryFrom, linkSendCmdBuf_eq, State.setAtt_link, h0, Config.retryMax]
      rw [if_neg (by simp), if_pos (.inl hne)]
      refine (ih _ f (by omega) (by omega) ?_).trans ?_
      · exact (sendsAnswered_congr rfl _).2 hrest
      simp [State.afterSuccess, State.setAtt, sleepMs, State.emit, LinkLayer.afterSends, packetTrace,
        State.txPayload, List.replicate_succ, show 10 - left + f + 1 = 10 - (left + 1) + (f + 1) + 1 by omega]

/-- `left` attempts, all of which fail. -/
theorem retryFrom_exhausted (left : Nat) (s : State) (hl : left + 1 ≤ 10)
    (h : s.sendsAnswered (List.replicate (left + 1) false)) :
    retryFrom (left + 1) s = (false,
      { s with
        trace := s.trace ++
          ((List.replicate left [Event.cmdBuf s.params.cmdPrintSendBytes s.txlen s.txPayload false, Event.sleep 1]).flatten
            ++ [Event.cmdBuf s.params.cmdPrintSendBytes s.txlen s.txPayload false]
            ++ (if s.params.retrySleepAfterLast then [Event.sleep 1] else []))
        att := 10
        link := LinkLayer.afterSends (left + 1) s.link }) := by
  induction left generalizing s with
  | zero =>
    obtain ⟨h0, -⟩ := (sendsAnswered_cons s false []).1 h
    simp only [retryFrom, linkSendCmdBuf_eq, State.setAtt_link, h0, Config.retryMax, LinkLayer.afterSends]
    by_cases hp : s.params.retrySleepAfterLast = true <;>
      simp [hp, State.setAtt, sleepMs, State.emit, State.txPayload]
  | succ left ih =>
    obtain ⟨h0, hrest⟩ := (sendsAnswered_cons s false (List.replicate (left + 1) false)).1 (by simpa [List.replicate_succ] using h)
    rw [retryFrom]
    simp only [linkSendCmdBuf_eq, State.setAtt_link, h0, Config.retryMax]
    rw [if_neg (by simp), if_pos (.inl (by omega))]
    refine (ih _ (by omega) ?_).trans ?_
    · exact (sendsAnswered_congr rfl _).2 hrest
    simp [State.setAtt, sleepMs, State.emit, LinkLayer.afterSends, State.txPayload, List.replicate_succ]

/-- The first attempts of a wrapper either contain a success or all fail. -/
theorem sendsAnswered_cases (left : Nat) (s : State) :
    (∃ f < left, s.sendsAnswered (failsThenSucceeds f)) ∨ s.sendsAnswered (List.replicate left false) := by
  induction left with
  | zero => exact .inr (by simp [State.sendsAnswered])
  | succ left ih =>
    rcases ih with ⟨f, hf, h⟩ | h
    · exact .inl ⟨f, by omega, h⟩
    · cases hv : s.link.sendAnswer left
      · refine .inr ?_
        rw [List.replicate_succ', sendsAnswered_append]
        refine ⟨h, (sendsAnswered_iff _ _).2 fun n hn => ?_⟩
        have : n = 0 := by simpa using hn
        subst this
        simpa [LinkLayer.sendAnswer_afterSends] using hv
      · refine .inl ⟨left, by omega, ?_⟩
        rw [failsThenSucceeds, sendsAnswered_append]
        refine ⟨h, (sendsAnswered_iff _ _).2 fun n hn => ?_⟩
        have : n = 0 := by simpa using hn
        subst this
        simpa [LinkLayer.sendAnswer_afterSends] using hv

/-- Everything `SendPacketRetry` can do. -/
theorem sendPacketRetry_cases (s : State) :
    (∃ f ≤ 9, s.sendsAnswered (failsThenSucceeds f) ∧ sendPacketRetry s = (true, s.afterSuccess f (f + 1)))
      ∨ (s.sendsAnswered (List.replicate 10 false) ∧ sendPacketRetry s = (false, s.afterExhaustion)) := by
  rcases sendsAnswered_cases 10 s with ⟨f, hf, h⟩ | h
  · refine .inl ⟨f, by omega, h, ?_⟩
    have := retryFrom_success 10 s f (le_refl _) hf h
    simpa [sendPacketRetry] using this
  · exact .inr ⟨h, retryFrom_exhausted 9 s (le_refl _) h⟩

theorem sendPacketRetry_success {s : State} {f : Nat} (hf : f ≤ 9) (h : s.sendsAnswered (failsThenSucceeds f)) :
    sendPacketRetry s = (true, s.afterSuccess f (f + 1)) := by
  have := retryFrom_success 10 s f (le_refl _) (by omega) h
  simpa [sendPacketRetry] using this

theorem sendPacketRetry_exhausted {s : State} (h : s.sendsAnswered (List.replicate 10 false)) :
    sendPacketRetry s = (false, s.afterExhaustion) := retryFrom_exhausted 9 s (le_refl _) h

/-! ### The packet loads (R162, R192, R193) -/

theorem loadPacket_eq (k : Fin 13) (s : State) :
    loadPacket k s =
      { s with
        pkt := BitVec.ofNat 4 k.val
        txb := Vector.ofFn fun n : Fin 12 => s.rb[12 * k.val + n.val]
        txlen := 12 } := rfl

/-- The loaded bytes are the packet's twelve bytes of RB. -/
theorem packetBytes_toList (rb : Vector Byte 160) (k : Fin 13) :
    (Vector.ofFn fun n : Fin 12 => rb[12 * k.val + n.val]).toList = packetData rb k.val := by
  refine List.ext_getElem ?_ fun n h1 h2 => ?_
  · simp [packetData]
    omega
  · simp [packetData]

theorem txPayload_loadPacket (k : Fin 13) (s : State) : (loadPacket k s).txPayload = packetData s.rb k.val := by
  rw [← packetBytes_toList]
  have : (Vector.ofFn fun n : Fin 12 => s.rb[12 * k.val + n.val]).toList.length = 12 := by simp
  exact List.take_of_length_le (by simp [loadPacket_eq])

/-! ### The packet loop -/

/-- What data packet `k` leaves when it fails `f` times and then succeeds. -/
def State.afterPacket (k : Fin 13) (f : Nat) (s : State) : State :=
  { s with
    pkt := BitVec.ofNat 4 k.val
    txb := Vector.ofFn fun n : Fin 12 => s.rb[12 * k.val + n.val]
    txlen := 12
    trace := s.trace ++ packetTrace s.params.cmdPrintSendBytes 12 (packetData s.rb k.val) f
    att := BitVec.ofNat 4 (f + 1)
    link := LinkLayer.afterSends (f + 1) s.link }

/-- What data packet `k` leaves when it exhausts its retries, before the raise. -/
def State.afterLostPacket (k : Fin 13) (s : State) : State :=
  { s with
    pkt := BitVec.ofNat 4 k.val
    txb := Vector.ofFn fun n : Fin 12 => s.rb[12 * k.val + n.val]
    txlen := 12
    trace := s.trace ++
      exhaustedTrace s.params.cmdPrintSendBytes 12 (packetData s.rb k.val) s.params.retrySleepAfterLast
    att := 10
    link := LinkLayer.afterSends 10 s.link }

theorem sendPackets_cons_success (k : Fin 13) (ks : List (Fin 13)) (s : State) (f : Nat) (hf : f ≤ 9)
    (h : s.sendsAnswered (failsThenSucceeds f)) : sendPackets (k :: ks) s = sendPackets ks (s.afterPacket k f) := by
  have h' : (loadPacket k s).sendsAnswered (failsThenSucceeds f) := (sendsAnswered_congr rfl _).2 h
  rw [sendPackets]
  simp only [sendPacketRetry_success hf h', if_true, State.afterSuccess, txPayload_loadPacket]
  rfl

theorem sendPackets_cons_exhausted (k : Fin 13) (ks : List (Fin 13)) (s : State)
    (h : s.sendsAnswered (List.replicate 10 false)) :
    sendPackets (k :: ks) s = (false, raiseTimeout (s.afterLostPacket k)) := by
  have h' : (loadPacket k s).sendsAnswered (List.replicate 10 false) := (sendsAnswered_congr rfl _).2 h
  rw [sendPackets]
  simp only [sendPacketRetry_exhausted h', State.afterExhaustion, txPayload_loadPacket]
  rfl

/-- The data packet numbers from `first` on. -/
def packetsFrom (first n : Nat) : List (Fin 13) := (List.range' first n).map fun k => Fin.ofNat 13 k

theorem packetsFrom_succ (first n : Nat) : packetsFrom first (n + 1) = Fin.ofNat 13 first :: packetsFrom (first + 1) n := by
  simp [packetsFrom, List.range'_succ]

/-- A transmit command's state differs from `s` at most in the registers of the packet phase and the link. -/
def State.onlyPackets (s t : State) : Prop :=
  { t with trace := s.trace, txb := s.txb, txlen := s.txlen, pkt := s.pkt, att := s.att, link := s.link } = s

theorem State.onlyPackets_congr {s t : State} (h : s.onlyPackets t) :
    t.params = s.params ∧ t.rb = s.rb ∧ t.rxb = s.rxb ∧ t.tile = s.tile ∧ t.ops = s.ops ∧ t.cfg = s.cfg
      ∧ t.phase = s.phase ∧ t.idx = s.idx ∧ t.status = s.status ∧ t.einfo = s.einfo ∧ t.fb = s.fb ∧ t.ie = s.ie
      ∧ t.cmdQueue = s.cmdQueue ∧ t.host = s.host ∧ t.resetLine = s.resetLine ∧ t.resets = s.resets
      ∧ t.grain = s.grain := by
  cases s
  cases t
  simp_all [State.onlyPackets]

/-- Consecutive data packets that all succeed: the loop goes on with the packets after them, and the state it goes on from. -/
theorem sendPackets_success (fs : List Nat) (first : Nat) (tail : List (Fin 13)) (s : State) (rest : List Bool)
    (hl : first + fs.length ≤ 13) (hw : withinRetries fs) (h : s.sendsAnswered (packetAnswers fs ++ rest)) :
    ∃ t, sendPackets (packetsFrom first fs.length ++ tail) s = sendPackets tail t
      ∧ t.trace = s.trace ++ dataTrace s.params.cmdPrintSendBytes s.rb first fs
      ∧ t.sendsAnswered rest ∧ (∀ n, t.link.readAnswer n = s.link.readAnswer n)
      ∧ (fs = [] → t = s)
      ∧ (fs ≠ [] → t.txb.toList = packetData s.rb (first + fs.length - 1) ∧ t.txlen = 12
          ∧ t.pkt = BitVec.ofNat 4 (first + fs.length - 1) ∧ t.att = BitVec.ofNat 4 (fs.getLastD 0 + 1))
      ∧ s.onlyPackets t := by
  induction fs generalizing first s with
  | nil => exact ⟨s, rfl, by simp [dataTrace], by simpa [packetAnswers] using h, fun _ => rfl, fun _ => rfl, fun h => absurd rfl h, rfl⟩
  | cons f fs ih =>
    have hf : f ≤ 9 := hw f (by simp)
    rw [packetAnswers, List.flatMap_cons, List.append_assoc, sendsAnswered_append,
      show (failsThenSucceeds f).length = f + 1 by simp [failsThenSucceeds]] at h
    have hk : (Fin.ofNat 13 first).val = first := by
      simp only [List.length_cons] at hl
      simp
      omega
    rw [List.length_cons, packetsFrom_succ, List.cons_append, sendPackets_cons_success _ _ _ f hf h.1]
    obtain ⟨t, e1, e2, e3, e4, e5, e6, e7⟩ := ih (first + 1) (s.afterPacket (Fin.ofNat 13 first) f)
      (by simp only [List.length_cons] at hl; omega) (fun x hx => hw x (by simp [hx]))
      ((sendsAnswered_congr (s := s.setLink (LinkLayer.afterSends (f + 1) s.link)) rfl _).2 h.2)
    refine ⟨t, e1, ?_, e3, fun n => ?_, by simp, fun _ => ?_, ?_⟩
    · rw [e2]
      simp only [dataTrace, State.afterPacket, hk, List.append_assoc]
    · rw [e4]
      exact LinkLayer.readAnswer_afterSends _ _ _
    · cases fs with
      | nil =>
        rw [e5 rfl]
        refine ⟨?_, rfl, ?_, rfl⟩
        · exact (packetBytes_toList s.rb (Fin.ofNat 13 first)).trans (by rw [hk]; rfl)
        · simp only [State.afterPacket, hk]
          rfl
      | cons g gs =>
        obtain ⟨a, b, c, d⟩ := e6 (by simp)
        have hn : first + 1 + (g :: gs).length - 1 = first + ((g :: gs).length + 1) - 1 := by simp; omega
        exact ⟨by rw [a, hn]; rfl, b, by rw [c, hn], by rw [d]; rfl⟩
    · exact congrArg (fun u : State =>
        { u with trace := s.trace, txb := s.txb, txlen := s.txlen, pkt := s.pkt, att := s.att, link := s.link }) e7

/-- Consecutive data packets that succeed, and then one that exhausts its retries. -/
theorem sendPackets_exhausted (fs : List Nat) (first : Nat) (tail : List (Fin 13)) (s : State)
    (hl : first + fs.length ≤ 12) (hw : withinRetries fs)
    (h : s.sendsAnswered (packetAnswers fs ++ List.replicate 10 false)) :
    ∃ t, sendPackets (packetsFrom first (fs.length + 1) ++ tail) s = (false, raiseTimeout t)
      ∧ t.trace = s.trace ++ dataTrace s.params.cmdPrintSendBytes s.rb first fs
          ++ exhaustedTrace s.params.cmdPrintSendBytes 12 (packetData s.rb (first + fs.length)) s.params.retrySleepAfterLast
      ∧ t.txb.toList = packetData s.rb (first + fs.length) ∧ t.txlen = 12
      ∧ t.pkt = BitVec.ofNat 4 (first + fs.length) ∧ t.att = 10 ∧ s.onlyPackets t := by
  have hsplit : packetsFrom first (fs.length + 1) ++ tail
      = packetsFrom first fs.length ++ (Fin.ofNat 13 (first + fs.length) :: tail) := by
    simp [packetsFrom, List.range'_concat]
  obtain ⟨u, e1, e2, e3, e4, e5, e6, e7⟩ :=
    sendPackets_success fs first (Fin.ofNat 13 (first + fs.length) :: tail) s _ (by omega) hw h
  have hk : (Fin.ofNat 13 (first + fs.length)).val = first + fs.length := by simp; omega
  obtain ⟨hp, hrb, -⟩ := State.onlyPackets_congr e7
  rw [hsplit, e1, sendPackets_cons_exhausted _ _ _ e3]
  refine ⟨_, rfl, ?_, ?_, rfl, ?_, rfl, ?_⟩
  · simp only [State.afterLostPacket, hk, e2, hp, hrb]
  · exact (packetBytes_toList u.rb _).trans (by rw [hk, hrb])
  · simp only [State.afterLostPacket, hk]
  · exact e7

/-- Whatever the link answers, `n` consecutive data packets either all succeed or stop at the first that exhausts its
retries. -/
theorem packets_cases (n : Nat) (s : State) :
    (∃ fs, fs.length = n ∧ withinRetries fs ∧ s.sendsAnswered (packetAnswers fs))
      ∨ ∃ fs, fs.length < n ∧ withinRetries fs ∧ s.sendsAnswered (packetAnswers fs ++ List.replicate 10 false) := by
  induction n with
  | zero => exact .inl ⟨[], rfl, by simp [withinRetries], by simp [packetAnswers, State.sendsAnswered]⟩
  | succ n ih =>
    rcases ih with ⟨fs, hl, hw, h⟩ | ⟨fs, hl, hw, h⟩
    · rcases sendsAnswered_cases 10 (s.setLink (LinkLayer.afterSends (packetAnswers fs).length s.link)) with ⟨f, hf, h'⟩ | h'
      · refine .inl ⟨fs ++ [f], by simp [hl], ?_, ?_⟩
        · intro x hx
          rcases List.mem_append.1 hx with hx | hx
          · exact hw x hx
          · rw [List.mem_singleton.1 hx]
            omega
        · have hone : packetAnswers (fs ++ [f]) = packetAnswers fs ++ failsThenSucceeds f := by simp [packetAnswers]
          rw [hone, sendsAnswered_append]
          exact ⟨h, h'⟩
      · exact .inr ⟨fs, by omega, hw, (sendsAnswered_append _ _ _).2 ⟨h, h'⟩⟩
    · exact .inr ⟨fs, by omega, hw, h⟩

/-- Everything the load, wrapper and packet loop write, and what they leave alone, whatever the link answers. -/
theorem sendPackets_frame (ks : List (Fin 13)) (s : State) :
    (sendPackets ks s).2.rb = s.rb ∧ (sendPackets ks s).2.tile = s.tile ∧ (sendPackets ks s).2.ops = s.ops
      ∧ (sendPackets ks s).2.cfg = s.cfg ∧ (sendPackets ks s).2.idx = s.idx ∧ (sendPackets ks s).2.rxb = s.rxb
      ∧ s.sameSurroundings (sendPackets ks s).2 := by
  induction ks generalizing s with
  | nil => exact ⟨rfl, rfl, rfl, rfl, rfl, rfl, rfl, rfl, rfl, rfl, rfl, rfl, rfl, rfl⟩
  | cons k ks ih =>
    rcases sendsAnswered_cases 10 s with ⟨f, hf, h⟩ | h
    · rw [sendPackets_cons_success k ks s f (by omega) h]
      exact ih _
    · rw [sendPackets_cons_exhausted k ks s h]
      exact ⟨rfl, rfl, rfl, rfl, rfl, rfl, rfl, rfl, rfl, rfl, rfl, rfl, rfl, rfl⟩

/-! ### The byte phases of TX1 (R164, R165) -/

/-- RXB after the next `n` reads. -/
def rxbAfterReads : Nat → LinkLayer → Byte → Byte
  | 0, _, b => b
  | n + 1, l, b => rxbAfterReads n l.nextRead.2 (rxbAfter l.nextRead.1 b)

theorem rxbAfterReads_none (n : Nat) (l : LinkLayer) (b : Byte) (h : ∀ m < n, (l.readAnswer m).isSome = false) :
    rxbAfterReads n l b = b := by
  induction n generalizing l b with
  | zero => rfl
  | succ n ih =>
    have h0 : l.nextRead.1 = none := by
      rw [LinkLayer.nextRead_fst]
      simpa using h 0 (by omega)
    rw [rxbAfterReads, h0, ih]
    · rfl
    · intro m hm
      rw [LinkLayer.readAnswer_nextRead]
      exact h _ (by omega)

theorem bulkByte_eq (s : State) (m : Fin 112) :
    bulkByte s m =
      { s with
        idx := BitVec.ofNat 7 m.val
        rxb := rxbAfter s.link.nextRead.1 s.rxb
        link := s.link.nextRead.2
        trace := s.trace ++ [.readWait 100 s.link.nextRead.1.isSome, .sendByte s.rb[48 + m.val]] } := by
  simp [bulkByte, linkReadWait_eq, linkSendByte_eq, State.setIdx]

theorem tailByte_eq (s : State) (m : Fin 6) :
    tailByte s m =
      { s with
        idx := BitVec.ofNat 7 m.val
        rxb := rxbAfter s.link.nextRead.1 s.rxb
        link := s.link.nextRead.2
        trace := s.trace ++ [.readWait 100 s.link.nextRead.1.isSome, .sendByte 0x00] } := by
  simp [tailByte, linkReadWait_eq, linkSendByte_eq, State.setIdx]

/-- The fold of a byte phase over consecutive indices, in closed form. -/
theorem bytePhase_eq {n : Nat} (step : State → Fin n → State) (byte : Vector Byte 160 → Fin n → Byte)
    (hstep : ∀ s m, step s m =
      { s with
        idx := BitVec.ofNat 7 m.val
        rxb := rxbAfter s.link.nextRead.1 s.rxb
        link := s.link.nextRead.2
        trace := s.trace ++ [.readWait 100 s.link.nextRead.1.isSome, .sendByte (byte s.rb m)] })
    (ms : List (Fin n)) (base : Nat) (hms : ms.map Fin.val = List.range' base ms.length) (s : State) :
    ms.foldl step s =
      { s with
        idx := (ms.getLast?.map fun m => BitVec.ofNat 7 m.val).getD s.idx
        rxb := rxbAfterReads ms.length s.link s.rxb
        link := LinkLayer.afterReads ms.length s.link
        trace := s.trace ++
          ms.flatMap fun m => [.readWait 100 (s.link.readAnswer (m.val - base)).isSome, .sendByte (byte s.rb m)] } := by
  induction ms generalizing s base with
  | nil => simp [rxbAfterReads, LinkLayer.afterReads]
  | cons m ms ih =>
    simp only [List.map_cons, List.length_cons, List.range'_succ, List.cons.injEq] at hms
    obtain ⟨hm, hms⟩ := hms
    rw [List.foldl_cons, hstep, ih (base + 1) hms]
    have hlast : ((m :: ms).getLast?.map fun m => BitVec.ofNat 7 m.val).getD s.idx
        = (ms.getLast?.map fun m => BitVec.ofNat 7 m.val).getD (BitVec.ofNat 7 m.val) := by
      rw [List.getLast?_cons]
      cases ms.getLast? <;> rfl
    have hflat : ∀ x ∈ ms, (s.link.nextRead.2.readAnswer (x.val - (base + 1))).isSome
        = (s.link.readAnswer (x.val - base)).isSome := by
      intro x hx
      have hx' : x.val ∈ List.range' (base + 1) ms.length := by
        rw [← hms]; exact List.mem_map_of_mem hx
      rw [List.mem_range'_1] at hx'
      rw [LinkLayer.readAnswer_nextRead, show x.val - (base + 1) + 1 = x.val - base by omega]
    simp only [hlast, rxbAfterReads, LinkLayer.afterReads, List.flatMap_cons, List.length_cons, hm, Nat.sub_self,
      LinkLayer.nextRead_fst, List.append_assoc, List.cons_append, List.nil_append]
    congr 2
    congr 2
    refine List.flatMap_congr fun x hx => ?_
    rw [hflat x hx]

theorem finRange_map_val (n : Nat) : (List.finRange n).map Fin.val = List.range' 0 (List.finRange n).length := by
  rw [List.map_coe_finRange_eq_range, List.length_finRange, List.range_eq_range']

/-- The bulk phase, in closed form. -/
theorem bulkPhase_eq (s : State) :
    bulkPhase s =
      { s with
        idx := 111
        rxb := rxbAfterReads 112 s.link s.rxb
        link := LinkLayer.afterReads 112 s.link
        trace := s.trace ++ bulkTrace s.arrives s.rb } := by
  rw [bulkPhase, bytePhase_eq bulkByte (fun rb m => rb[48 + m.val]) bulkByte_eq _ 0 (finRange_map_val 112) s]
  simp only [List.length_finRange, bulkTrace, State.arrives, Nat.sub_zero]
  congr 1

/-- The trailing unknown phase, in closed form. -/
theorem tailPhase_eq (s : State) :
    tailPhase s =
      { s with
        idx := 5
        rxb := rxbAfterReads 6 s.link s.rxb
        link := LinkLayer.afterReads 6 s.link
        trace := s.trace ++ tailTrace fun n => s.arrives (n - 112) } := by
  rw [tailPhase, bytePhase_eq tailByte (fun _ _ => 0x00) tailByte_eq _ 0 (finRange_map_val 6) s]
  simp only [List.length_finRange, tailTrace, State.arrives, Nat.sub_zero, Nat.add_sub_cancel_left]
  congr 1

end Sys2Proof.Machine
end

