-- ==== Sys2Proof/Laws/Packets.lean ====
section
/-! SUPPORT. The terminator packet (R193), and the fields of the states that the transmitters' closed forms are written in. -/

namespace Sys2Proof.Machine

/-- The terminator packet is the plane's terminator bytes, and beyond them what TXB held (R193). -/
theorem terminatorBytes_toList (plane : Plane) (s : State) :
    (terminatorBytes plane s).toList
      = terminatorData s.rb plane ++ s.txb.toList.drop (terminatorData s.rb plane).length := by
  have hd : s.rb.toList.drop 156 = [s.rb[156], s.rb[157], s.rb[158], s.rb[159]] := by
    refine List.ext_getElem (by simp) fun n h1 h2 => ?_
    simp only [List.length_drop, Vector.length_toList] at h1
    have : n = 0 ∨ n = 1 ∨ n = 2 ∨ n = 3 := by omega
    rcases this with rfl | rfl | rfl | rfl <;> simp
  cases plane <;> refine List.ext_getElem (by simp [terminatorData, hd]) fun n h1 h2 => ?_ <;>
    simp only [Vector.length_toList] at h1 <;> simp only [terminatorBytes, terminatorData, hd] <;> interval_cases n <;> simp

/-- What the terminator packet transmits (R105, R193). -/
theorem txPayload_loadTerminator (plane : Plane) (s : State) :
    (loadTerminator plane s).txPayload = terminatorData s.rb plane := by
  have hl : (terminatorLength plane).toNat = (terminatorData s.rb plane).length := by
    cases plane <;> simp [terminatorData, terminatorLength]
  change (terminatorBytes plane s).toList.take (terminatorLength plane).toNat = _
  rw [terminatorBytes_toList, hl]
  exact List.take_left

/-! ### Field by field -/

@[simp] theorem State.afterSuccess_params (f a : Nat) (s : State) : (s.afterSuccess f a).params = s.params := rfl
@[simp] theorem State.afterSuccess_rb (f a : Nat) (s : State) : (s.afterSuccess f a).rb = s.rb := rfl
@[simp] theorem State.afterSuccess_txb (f a : Nat) (s : State) : (s.afterSuccess f a).txb = s.txb := rfl
@[simp] theorem State.afterSuccess_txlen (f a : Nat) (s : State) : (s.afterSuccess f a).txlen = s.txlen := rfl
@[simp] theorem State.afterSuccess_rxb (f a : Nat) (s : State) : (s.afterSuccess f a).rxb = s.rxb := rfl
@[simp] theorem State.afterSuccess_tile (f a : Nat) (s : State) : (s.afterSuccess f a).tile = s.tile := rfl
@[simp] theorem State.afterSuccess_ops (f a : Nat) (s : State) : (s.afterSuccess f a).ops = s.ops := rfl
@[simp] theorem State.afterSuccess_cfg (f a : Nat) (s : State) : (s.afterSuccess f a).cfg = s.cfg := rfl
@[simp] theorem State.afterSuccess_phase (f a : Nat) (s : State) : (s.afterSuccess f a).phase = s.phase := rfl
@[simp] theorem State.afterSuccess_pkt (f a : Nat) (s : State) : (s.afterSuccess f a).pkt = s.pkt := rfl
@[simp] theorem State.afterSuccess_idx (f a : Nat) (s : State) : (s.afterSuccess f a).idx = s.idx := rfl
@[simp] theorem State.afterSuccess_att (f a : Nat) (s : State) : (s.afterSuccess f a).att = BitVec.ofNat 4 a := rfl
@[simp] theorem State.afterSuccess_status (f a : Nat) (s : State) : (s.afterSuccess f a).status = s.status := rfl
@[simp] theorem State.afterSuccess_einfo (f a : Nat) (s : State) : (s.afterSuccess f a).einfo = s.einfo := rfl
@[simp] theorem State.afterSuccess_fb (f a : Nat) (s : State) : (s.afterSuccess f a).fb = s.fb := rfl
@[simp] theorem State.afterSuccess_ie (f a : Nat) (s : State) : (s.afterSuccess f a).ie = s.ie := rfl
@[simp] theorem State.afterSuccess_cmdQueue (f a : Nat) (s : State) : (s.afterSuccess f a).cmdQueue = s.cmdQueue := rfl
@[simp] theorem State.afterSuccess_trace (f a : Nat) (s : State) : (s.afterSuccess f a).trace = s.trace ++ packetTrace s.params.cmdPrintSendBytes s.txlen s.txPayload f := rfl
@[simp] theorem State.afterSuccess_link (f a : Nat) (s : State) : (s.afterSuccess f a).link = LinkLayer.afterSends (f + 1) s.link := rfl
@[simp] theorem State.afterSuccess_host (f a : Nat) (s : State) : (s.afterSuccess f a).host = s.host := rfl
@[simp] theorem State.afterSuccess_resetLine (f a : Nat) (s : State) : (s.afterSuccess f a).resetLine = s.resetLine := rfl
@[simp] theorem State.afterSuccess_resets (f a : Nat) (s : State) : (s.afterSuccess f a).resets = s.resets := rfl
@[simp] theorem State.afterSuccess_grain (f a : Nat) (s : State) : (s.afterSuccess f a).grain = s.grain := rfl
@[simp] theorem State.afterExhaustion_params (s : State) : s.afterExhaustion.params = s.params := rfl
@[simp] theorem State.afterExhaustion_rb (s : State) : s.afterExhaustion.rb = s.rb := rfl
@[simp] theorem State.afterExhaustion_txb (s : State) : s.afterExhaustion.txb = s.txb := rfl
@[simp] theorem State.afterExhaustion_txlen (s : State) : s.afterExhaustion.txlen = s.txlen := rfl
@[simp] theorem State.afterExhaustion_rxb (s : State) : s.afterExhaustion.rxb = s.rxb := rfl
@[simp] theorem State.afterExhaustion_tile (s : State) : s.afterExhaustion.tile = s.tile := rfl
@[simp] theorem State.afterExhaustion_ops (s : State) : s.afterExhaustion.ops = s.ops := rfl
@[simp] theorem State.afterExhaustion_cfg (s : State) : s.afterExhaustion.cfg = s.cfg := rfl
@[simp] theorem State.afterExhaustion_phase (s : State) : s.afterExhaustion.phase = s.phase := rfl
@[simp] theorem State.afterExhaustion_pkt (s : State) : s.afterExhaustion.pkt = s.pkt := rfl
@[simp] theorem State.afterExhaustion_idx (s : State) : s.afterExhaustion.idx = s.idx := rfl
@[simp] theorem State.afterExhaustion_att (s : State) : s.afterExhaustion.att = 10 := rfl
@[simp] theorem State.afterExhaustion_status (s : State) : s.afterExhaustion.status = s.status := rfl
@[simp] theorem State.afterExhaustion_einfo (s : State) : s.afterExhaustion.einfo = s.einfo := rfl
@[simp] theorem State.afterExhaustion_fb (s : State) : s.afterExhaustion.fb = s.fb := rfl
@[simp] theorem State.afterExhaustion_ie (s : State) : s.afterExhaustion.ie = s.ie := rfl
@[simp] theorem State.afterExhaustion_cmdQueue (s : State) : s.afterExhaustion.cmdQueue = s.cmdQueue := rfl
@[simp] theorem State.afterExhaustion_trace (s : State) : s.afterExhaustion.trace = s.trace ++ exhaustedTrace s.params.cmdPrintSendBytes s.txlen s.txPayload s.params.retrySleepAfterLast := rfl
@[simp] theorem State.afterExhaustion_link (s : State) : s.afterExhaustion.link = LinkLayer.afterSends 10 s.link := rfl
@[simp] theorem State.afterExhaustion_host (s : State) : s.afterExhaustion.host = s.host := rfl
@[simp] theorem State.afterExhaustion_resetLine (s : State) : s.afterExhaustion.resetLine = s.resetLine := rfl
@[simp] theorem State.afterExhaustion_resets (s : State) : s.afterExhaustion.resets = s.resets := rfl
@[simp] theorem State.afterExhaustion_grain (s : State) : s.afterExhaustion.grain = s.grain := rfl
@[simp] theorem loadPacket_params (k : Fin 13) (s : State) : (loadPacket k s).params = s.params := rfl
@[simp] theorem loadPacket_rb (k : Fin 13) (s : State) : (loadPacket k s).rb = s.rb := rfl
@[simp] theorem loadPacket_txb (k : Fin 13) (s : State) : (loadPacket k s).txb = Vector.ofFn fun n : Fin 12 => s.rb[12 * k.val + n.val] := rfl
@[simp] theorem loadPacket_txlen (k : Fin 13) (s : State) : (loadPacket k s).txlen = 12 := rfl
@[simp] theorem loadPacket_rxb (k : Fin 13) (s : State) : (loadPacket k s).rxb = s.rxb := rfl
@[simp] theorem loadPacket_tile (k : Fin 13) (s : State) : (loadPacket k s).tile = s.tile := rfl
@[simp] theorem loadPacket_ops (k : Fin 13) (s : State) : (loadPacket k s).ops = s.ops := rfl
@[simp] theorem loadPacket_cfg (k : Fin 13) (s : State) : (loadPacket k s).cfg = s.cfg := rfl
@[simp] theorem loadPacket_phase (k : Fin 13) (s : State) : (loadPacket k s).phase = s.phase := rfl
@[simp] theorem loadPacket_pkt (k : Fin 13) (s : State) : (loadPacket k s).pkt = BitVec.ofNat 4 k.val := rfl
@[simp] theorem loadPacket_idx (k : Fin 13) (s : State) : (loadPacket k s).idx = s.idx := rfl
@[simp] theorem loadPacket_att (k : Fin 13) (s : State) : (loadPacket k s).att = s.att := rfl
@[simp] theorem loadPacket_status (k : Fin 13) (s : State) : (loadPacket k s).status = s.status := rfl
@[simp] theorem loadPacket_einfo (k : Fin 13) (s : State) : (loadPacket k s).einfo = s.einfo := rfl
@[simp] theorem loadPacket_fb (k : Fin 13) (s : State) : (loadPacket k s).fb = s.fb := rfl
@[simp] theorem loadPacket_ie (k : Fin 13) (s : State) : (loadPacket k s).ie = s.ie := rfl
@[simp] theorem loadPacket_cmdQueue (k : Fin 13) (s : State) : (loadPacket k s).cmdQueue = s.cmdQueue := rfl
@[simp] theorem loadPacket_trace (k : Fin 13) (s : State) : (loadPacket k s).trace = s.trace := rfl
@[simp] theorem loadPacket_link (k : Fin 13) (s : State) : (loadPacket k s).link = s.link := rfl
@[simp] theorem loadPacket_host (k : Fin 13) (s : State) : (loadPacket k s).host = s.host := rfl
@[simp] theorem loadPacket_resetLine (k : Fin 13) (s : State) : (loadPacket k s).resetLine = s.resetLine := rfl
@[simp] theorem loadPacket_resets (k : Fin 13) (s : State) : (loadPacket k s).resets = s.resets := rfl
@[simp] theorem loadPacket_grain (k : Fin 13) (s : State) : (loadPacket k s).grain = s.grain := rfl
@[simp] theorem loadTerminator_params (plane : Plane) (s : State) : (loadTerminator plane s).params = s.params := rfl
@[simp] theorem loadTerminator_rb (plane : Plane) (s : State) : (loadTerminator plane s).rb = s.rb := rfl
@[simp] theorem loadTerminator_txb (plane : Plane) (s : State) : (loadTerminator plane s).txb = terminatorBytes plane s := rfl
@[simp] theorem loadTerminator_txlen (plane : Plane) (s : State) : (loadTerminator plane s).txlen = terminatorLength plane := rfl
@[simp] theorem loadTerminator_rxb (plane : Plane) (s : State) : (loadTerminator plane s).rxb = s.rxb := rfl
@[simp] theorem loadTerminator_tile (plane : Plane) (s : State) : (loadTerminator plane s).tile = s.tile := rfl
@[simp] theorem loadTerminator_ops (plane : Plane) (s : State) : (loadTerminator plane s).ops = s.ops := rfl
@[simp] theorem loadTerminator_cfg (plane : Plane) (s : State) : (loadTerminator plane s).cfg = s.cfg := rfl
@[simp] theorem loadTerminator_phase (plane : Plane) (s : State) : (loadTerminator plane s).phase = s.phase := rfl
@[simp] theorem loadTerminator_pkt (plane : Plane) (s : State) : (loadTerminator plane s).pkt = 13 := rfl
@[simp] theorem loadTerminator_idx (plane : Plane) (s : State) : (loadTerminator plane s).idx = s.idx := rfl
@[simp] theorem loadTerminator_att (plane : Plane) (s : State) : (loadTerminator plane s).att = s.att := rfl
@[simp] theorem loadTerminator_status (plane : Plane) (s : State) : (loadTerminator plane s).status = s.status := rfl
@[simp] theorem loadTerminator_einfo (plane : Plane) (s : State) : (loadTerminator plane s).einfo = s.einfo := rfl
@[simp] theorem loadTerminator_fb (plane : Plane) (s : State) : (loadTerminator plane s).fb = s.fb := rfl
@[simp] theorem loadTerminator_ie (plane : Plane) (s : State) : (loadTerminator plane s).ie = s.ie := rfl
@[simp] theorem loadTerminator_cmdQueue (plane : Plane) (s : State) : (loadTerminator plane s).cmdQueue = s.cmdQueue := rfl
@[simp] theorem loadTerminator_trace (plane : Plane) (s : State) : (loadTerminator plane s).trace = s.trace := rfl
@[simp] theorem loadTerminator_link (plane : Plane) (s : State) : (loadTerminator plane s).link = s.link := rfl
@[simp] theorem loadTerminator_host (plane : Plane) (s : State) : (loadTerminator plane s).host = s.host := rfl
@[simp] theorem loadTerminator_resetLine (plane : Plane) (s : State) : (loadTerminator plane s).resetLine = s.resetLine := rfl
@[simp] theorem loadTerminator_resets (plane : Plane) (s : State) : (loadTerminator plane s).resets = s.resets := rfl
@[simp] theorem loadTerminator_grain (plane : Plane) (s : State) : (loadTerminator plane s).grain = s.grain := rfl

end Sys2Proof.Machine
end

