-- ==== Sys2Proof/Laws/Payload.lean ====
section
/-! SUPPORT. The payload byte string (R108) of each piece of a transmit command's trace. -/

namespace Sys2Proof.Machine

@[simp] theorem payload_nil : payload [] = [] := rfl

@[simp] theorem payload_append (a b : List Event) : payload (a ++ b) = payload a ++ payload b := by simp [payload]

/-- A packet that succeeds contributes its data once, however often it failed first. -/
theorem payload_packetTrace (c l : Byte) (d : List Byte) (f : Nat) : payload (packetTrace c l d f) = d := by
  have hfail : payload (List.replicate f [Event.cmdBuf c l d false, Event.sleep 1]).flatten = [] := by
    induction f with
    | zero => rfl
    | succ f ih => rw [List.replicate_succ, List.flatten_cons, payload_append, ih]; rfl
  rw [packetTrace, payload_append, hfail]
  simp [payload, Event.payload]

/-- A packet that exhausts its retries contributes nothing. -/
theorem payload_exhaustedTrace (c l : Byte) (d : List Byte) (b : Bool) : payload (exhaustedTrace c l d b) = [] := by
  cases b <;> rfl

/-- Data packets `k`, `k + 1`, ... contribute their stretch of RB. -/
theorem payload_dataTrace (c : Byte) (rb : Vector Byte 160) (fs : List Nat) (k : Nat) :
    payload (dataTrace c rb k fs) = (rb.toList.drop (12 * k)).take (12 * fs.length) := by
  induction fs generalizing k with
  | nil => simp [dataTrace]
  | cons f fs ih =>
    rw [dataTrace, payload_append, payload_packetTrace, ih, packetData, show 12 * (k + 1) = 12 * k + 12 by ring,
      ← List.drop_drop, List.length_cons, show 12 * (fs.length + 1) = 12 + 12 * fs.length by ring, List.take_add]

/-- The bulk phase contributes RB from byte 48 on. -/
theorem payload_bulkTrace (a : Nat → Bool) (rb : Vector Byte 160) : payload (bulkTrace a rb) = rb.toList.drop 48 := by
  have hmap : payload (bulkTrace a rb) = (List.finRange 112).map fun m => rb[48 + m.val] := by
    simp only [bulkTrace, payload, List.flatMap_assoc]
    induction List.finRange 112 with
    | nil => rfl
    | cons m ms ih => rw [List.flatMap_cons, List.map_cons, ih]; rfl
  rw [hmap]
  exact List.ext_getElem (by simp) fun n h1 h2 => by simp

theorem payload_tailTrace (a : Nat → Bool) : payload (tailTrace a) = List.replicate 6 0 := rfl

theorem payload_closeTrace (a : Nat → Bool) : payload (closeTrace a) = [] := rfl

end Sys2Proof.Machine
end

