-- ==== Sys2Proof/Laws/PerInstr.lean ====
section
/-! SUPPORT. The family of statements made once per command. -/

namespace Sys2Proof.Laws

/-- The opcode field of a command's word is its opcode (R91). -/
theorem opcField_encode (i : Instr) : opcField (encode i) = i.opcode := by
  cases i with
  | clr => rfl
  | asm row psel => revert row; cases psel <;> decide
  | tx1 => rfl
  | tx2 plane => cases plane <;> rfl

/-- A mask that keeps the whole opcode field tells the commands of one opcode from all others. -/
theorem opcode_of_masked {i : Instr} {mask m : CmdWord} (h : encode i &&& mask = m) (hm : opcField mask = 15#4) :
    i.opcode = opcField m := by
  have hand : opcField (encode i &&& mask) = opcField (encode i) &&& opcField mask := by
    unfold opcField
    ext k hk
    simp [BitVec.getElem_extractLsb']
  rw [← h, hand, opcField_encode, hm]
  exact (BitVec.and_allOnes (x := i.opcode)).symm

/-- R95: the word of a well-formed command has, under its row's mask, its row's match; and the word of no command of another
row has it. -/
def TableMask.Statement (i : Instr) : Prop :=
  i.wellFormed = true →
    encode i &&& i.tableMask = i.tableMatch ∧ ∀ j : Instr, encode j &&& i.tableMask = i.tableMatch → j.opcode = i.opcode

theorem TableMask.clr : TableMask.Statement .clr := fun _ =>
  ⟨by decide, fun _ h => opcode_of_masked h (by decide)⟩

theorem TableMask.asm (row : BitVec 5) (psel : PlaneSel) : TableMask.Statement (.asm row psel) := fun _ =>
  ⟨by revert row; cases psel <;> decide, fun _ h => opcode_of_masked (mask := 0xFCE0) (m := 0x2000) h (by decide)⟩

theorem TableMask.tx1 : TableMask.Statement .tx1 := fun _ =>
  ⟨by decide, fun _ h => opcode_of_masked h (by decide)⟩

theorem TableMask.tx2 (plane : Plane) : TableMask.Statement (.tx2 plane) := fun _ =>
  ⟨by cases plane <;> decide, fun _ h => opcode_of_masked (mask := 0xFEFF) (m := 0x4000) h (by decide)⟩

end Sys2Proof.Laws
end

