-- ==== Sys2Proof/Laws/RowAssembler.lean ====
section
/-! SUPPORT. What the row assembler's operations can do: one dot set in a tile, one slot stored in RB, one tile, and the loop over
the twenty visible columns. -/

namespace Sys2Proof.Machine

/-- A fold over the octet, unrolled. -/
theorem octet_foldl {β : Type} (f : β → Fin 8 → β) (b : β) :
    octet.foldl f b = f (f (f (f (f (f (f (f b 0) 1) 2) 3) 4) 5) 6) 7 := rfl

/-- The bit of a tile after one dot is set: dot (i, j) is bit 7-j of byte i. -/
theorem setDot_bit (out : PrinterTile) (i j i' j' : Fin 8) :
    (setDot out i j)[i'.val].getLsbD (7 - j'.val) = (out[i'.val].getLsbD (7 - j'.val) || (decide (i' = i) && decide (j' = j))) := by
  have hbit : (bitFromTop j).getLsbD (7 - j'.val) = decide (j' = j) := by
    revert j j'; decide
  simp only [setDot, Vector.getElem_set]
  by_cases h : i' = i
  · subst h
    simp [hbit]
  · have : i.val ≠ i'.val := fun e => h (Fin.ext e.symm)
    simp [this, h]

/-- RB after one slot is stored (R147): the slot's eight bytes are the tile's, every other byte is as it was. -/
theorem storeSlot_get (b : Vector Byte 160) (t : Fin 20) (out : PrinterTile) (n : Nat) (hn : n < 160) :
    (storeSlot b t out)[n] = if n / 8 = t.val then out[n % 8]'(Nat.mod_lt _ (by omega)) else b[n] := by
  rw [storeSlot, octet_foldl]
  simp only [Vector.getElem_set]
  split_ifs <;> first | (exfalso; omega) | rfl | (congr 1; simp at *; omega)

/-- What one tile leaves: the tile latches and RB written, everything else as it was. -/
theorem assembleTile_eq (r : Nat) (psel : PlaneSel) (s : State) (t : Fin 20) :
    assembleTile r psel s t =
      { s with
        tile :=
          { tid := sourceTile s.fb s.cfg r t.val
            pat := s.fb.fetchPattern (sourceTile s.fb s.cfg r t.val)
            out := xform (s.fb.fetchPattern (sourceTile s.fb s.cfg r t.val)) psel
            dmask := dmaskAfter (s.fb.fetchPattern (sourceTile s.fb s.cfg r t.val)) psel
            tcol := BitVec.ofNat 5 t.val }
        rb := storeSlot s.rb t (xform (s.fb.fetchPattern (sourceTile s.fb s.cfg r t.val)) psel) } := rfl

/-- What a run of tiles leaves: it writes the tile latches and RB only. -/
theorem assembleTiles_frame (r : Nat) (psel : PlaneSel) (ts : List (Fin 20)) (s : State) :
    ts.foldl (assembleTile r psel) s =
      { s with
        tile := (ts.foldl (assembleTile r psel) s).tile
        rb := (ts.foldl (assembleTile r psel) s).rb } := by
  induction ts generalizing s with
  | nil => rfl
  | cons t ts ih =>
    rw [List.foldl_cons, ih, assembleTile_eq]

/-- RB after a run of tiles: a byte whose column was assembled holds its tile's byte, any other byte is as it was. -/
theorem assembleTiles_rb (r : Nat) (psel : PlaneSel) (ts : List (Fin 20)) (s : State) (n : Nat) (hn : n < 160) :
    (ts.foldl (assembleTile r psel) s).rb[n] =
      if ∃ t ∈ ts, t.val = n / 8 then
        (xform (s.fb.fetchPattern (sourceTile s.fb s.cfg r (n / 8))) psel)[n % 8]'(Nat.mod_lt _ (by omega))
      else s.rb[n] := by
  induction ts generalizing s with
  | nil => simp
  | cons t ts ih =>
    rw [List.foldl_cons, ih]
    simp only [assembleTile_eq, storeSlot_get, List.exists_mem_cons_iff]
    by_cases h1 : ∃ x ∈ ts, x.val = n / 8
    · simp [h1]
    · by_cases h2 : n / 8 = t.val
      · simp [h2]
      · simp [h1, h2, Ne.symm h2]

/-- RB after a whole row (R149): every byte is its column's tile byte, whatever RB held. -/
theorem assembleRow_rb (r : Nat) (psel : PlaneSel) (s : State) (n : Nat) (hn : n < 160) :
    (assembleRow r psel s).rb[n] =
      (xform (s.fb.fetchPattern (sourceTile s.fb s.cfg r (n / 8))) psel)[n % 8]'(Nat.mod_lt _ (by omega)) := by
  rw [assembleRow, assembleTiles_rb, if_pos ⟨⟨n / 8, by omega⟩, List.mem_finRange _, rfl⟩]

/-- A whole row writes the tile latches and RB only. -/
theorem assembleRow_frame (r : Nat) (psel : PlaneSel) (s : State) :
    assembleRow r psel s = { s with tile := (assembleRow r psel s).tile, rb := (assembleRow r psel s).rb } :=
  assembleTiles_frame r psel (List.finRange 20) s

/-! ### The fields a row leaves alone -/

@[simp] theorem assembleRow_params (r : Nat) (psel : PlaneSel) (s : State) : (assembleRow r psel s).params = s.params := by
  rw [assembleRow_frame]
@[simp] theorem assembleRow_txb (r : Nat) (psel : PlaneSel) (s : State) : (assembleRow r psel s).txb = s.txb := by
  rw [assembleRow_frame]
@[simp] theorem assembleRow_txlen (r : Nat) (psel : PlaneSel) (s : State) : (assembleRow r psel s).txlen = s.txlen := by
  rw [assembleRow_frame]
@[simp] theorem assembleRow_rxb (r : Nat) (psel : PlaneSel) (s : State) : (assembleRow r psel s).rxb = s.rxb := by
  rw [assembleRow_frame]
@[simp] theorem assembleRow_ops (r : Nat) (psel : PlaneSel) (s : State) : (assembleRow r psel s).ops = s.ops := by
  rw [assembleRow_frame]
@[simp] theorem assembleRow_cfg (r : Nat) (psel : PlaneSel) (s : State) : (assembleRow r psel s).cfg = s.cfg := by
  rw [assembleRow_frame]
@[simp] theorem assembleRow_phase (r : Nat) (psel : PlaneSel) (s : State) : (assembleRow r psel s).phase = s.phase := by
  rw [assembleRow_frame]
@[simp] theorem assembleRow_pkt (r : Nat) (psel : PlaneSel) (s : State) : (assembleRow r psel s).pkt = s.pkt := by
  rw [assembleRow_frame]
@[simp] theorem assembleRow_idx (r : Nat) (psel : PlaneSel) (s : State) : (assembleRow r psel s).idx = s.idx := by
  rw [assembleRow_frame]
@[simp] theorem assembleRow_att (r : Nat) (psel : PlaneSel) (s : State) : (assembleRow r psel s).att = s.att := by
  rw [assembleRow_frame]
@[simp] theorem assembleRow_status (r : Nat) (psel : PlaneSel) (s : State) : (assembleRow r psel s).status = s.status := by
  rw [assembleRow_frame]
@[simp] theorem assembleRow_einfo (r : Nat) (psel : PlaneSel) (s : State) : (assembleRow r psel s).einfo = s.einfo := by
  rw [assembleRow_frame]
@[simp] theorem assembleRow_fb (r : Nat) (psel : PlaneSel) (s : State) : (assembleRow r psel s).fb = s.fb := by
  rw [assembleRow_frame]
@[simp] theorem assembleRow_ie (r : Nat) (psel : PlaneSel) (s : State) : (assembleRow r psel s).ie = s.ie := by
  rw [assembleRow_frame]
@[simp] theorem assembleRow_cmdQueue (r : Nat) (psel : PlaneSel) (s : State) : (assembleRow r psel s).cmdQueue = s.cmdQueue := by
  rw [assembleRow_frame]
@[simp] theorem assembleRow_trace (r : Nat) (psel : PlaneSel) (s : State) : (assembleRow r psel s).trace = s.trace := by
  rw [assembleRow_frame]
@[simp] theorem assembleRow_link (r : Nat) (psel : PlaneSel) (s : State) : (assembleRow r psel s).link = s.link := by
  rw [assembleRow_frame]
@[simp] theorem assembleRow_host (r : Nat) (psel : PlaneSel) (s : State) : (assembleRow r psel s).host = s.host := by
  rw [assembleRow_frame]
@[simp] theorem assembleRow_resetLine (r : Nat) (psel : PlaneSel) (s : State) : (assembleRow r psel s).resetLine = s.resetLine := by
  rw [assembleRow_frame]
@[simp] theorem assembleRow_resets (r : Nat) (psel : PlaneSel) (s : State) : (assembleRow r psel s).resets = s.resets := by
  rw [assembleRow_frame]
@[simp] theorem assembleRow_grain (r : Nat) (psel : PlaneSel) (s : State) : (assembleRow r psel s).grain = s.grain := by
  rw [assembleRow_frame]

/-! ### The fields CLR's loop leaves alone -/

@[simp] theorem clearRow_params (s : State) : (clearRow s).params = s.params := rfl
@[simp] theorem clearRow_rb (s : State) : (clearRow s).rb = Vector.replicate 160 0 := rfl
@[simp] theorem clearRow_txb (s : State) : (clearRow s).txb = s.txb := rfl
@[simp] theorem clearRow_txlen (s : State) : (clearRow s).txlen = s.txlen := rfl
@[simp] theorem clearRow_rxb (s : State) : (clearRow s).rxb = s.rxb := rfl
@[simp] theorem clearRow_tile (s : State) : (clearRow s).tile = s.tile := rfl
@[simp] theorem clearRow_ops (s : State) : (clearRow s).ops = s.ops := rfl
@[simp] theorem clearRow_cfg (s : State) : (clearRow s).cfg = s.cfg := rfl
@[simp] theorem clearRow_phase (s : State) : (clearRow s).phase = s.phase := rfl
@[simp] theorem clearRow_pkt (s : State) : (clearRow s).pkt = s.pkt := rfl
@[simp] theorem clearRow_idx (s : State) : (clearRow s).idx = s.idx := rfl
@[simp] theorem clearRow_att (s : State) : (clearRow s).att = s.att := rfl
@[simp] theorem clearRow_status (s : State) : (clearRow s).status = s.status := rfl
@[simp] theorem clearRow_einfo (s : State) : (clearRow s).einfo = s.einfo := rfl
@[simp] theorem clearRow_fb (s : State) : (clearRow s).fb = s.fb := rfl
@[simp] theorem clearRow_ie (s : State) : (clearRow s).ie = s.ie := rfl
@[simp] theorem clearRow_cmdQueue (s : State) : (clearRow s).cmdQueue = s.cmdQueue := rfl
@[simp] theorem clearRow_trace (s : State) : (clearRow s).trace = s.trace := rfl
@[simp] theorem clearRow_link (s : State) : (clearRow s).link = s.link := rfl
@[simp] theorem clearRow_host (s : State) : (clearRow s).host = s.host := rfl
@[simp] theorem clearRow_resetLine (s : State) : (clearRow s).resetLine = s.resetLine := rfl
@[simp] theorem clearRow_resets (s : State) : (clearRow s).resets = s.resets := rfl
@[simp] theorem clearRow_grain (s : State) : (clearRow s).grain = s.grain := rfl

end Sys2Proof.Machine
end

