-- ==== Sys2Proof/Laws/Step.lean ====
section
/-! SUPPORT. What one step of the machine is in each of its cases, and how runs compose. -/

namespace Sys2Proof.Machine

/-- A reset event comes before anything else (R270). -/
theorem step_reset {s : State} (h : s.resetLine = true) : step s = .next (resetEvent s) := by simp [step, h]

/-- A running engine takes a row of R27, in either grain. -/
theorem step_running {s : State} (hr : s.resetLine = false) (hp : s.phase ≠ .idle) : step s = engineStep s := by
  simp [step, hr, hp]

/-- In row grain the idle engine takes the row IDLE of R27: it accepts the presented word. -/
theorem step_accept {s : State} {w : CmdWord} {rest : List CmdWord} (hr : s.resetLine = false) (hg : s.grain = .row)
    (hp : s.phase = .idle) (hq : s.cmdQueue = w :: rest) : step s = .next (acceptWord w (s.setQueue rest)) := by
  simp [step, engineStep, engineRow, hr, hg, hp, hq]

/-- In command grain the idle engine runs the whole command that the presented word decodes to. -/
theorem step_command {s : State} {w : CmdWord} {rest : List CmdWord} (hr : s.resetLine = false) (hg : s.grain = .command)
    (hp : s.phase = .idle) (hq : s.cmdQueue = w :: rest) : step s = execWord w (s.setQueue rest) := by
  simp [step, hr, hg, hp, hq]

/-- With no word presented to the idle engine the host moves. -/
theorem step_host {s : State} (hr : s.resetLine = false) (hp : s.phase = .idle) (hq : s.cmdQueue = []) :
    step s = .next (hostStep s) := by
  simp [step, hr, hp, hq]

/-- A step is one of five: a reset event, a row of a running engine, an acceptance, a whole command, a move of the host. -/
theorem step_cases (s : State) :
    (s.resetLine = true ∧ step s = .next (resetEvent s))
      ∨ (s.resetLine = false ∧ s.phase ≠ .idle ∧ step s = engineStep s)
      ∨ (∃ w rest, s.resetLine = false ∧ s.phase = .idle ∧ s.grain = .row ∧ s.cmdQueue = w :: rest
          ∧ step s = .next (acceptWord w (s.setQueue rest)))
      ∨ (∃ w rest, s.resetLine = false ∧ s.phase = .idle ∧ s.grain = .command ∧ s.cmdQueue = w :: rest
          ∧ step s = execWord w (s.setQueue rest))
      ∨ (s.resetLine = false ∧ s.phase = .idle ∧ s.cmdQueue = [] ∧ step s = .next (hostStep s)) := by
  cases hr : s.resetLine with
  | true => exact .inl ⟨rfl, step_reset hr⟩
  | false =>
    by_cases hp : s.phase = .idle
    · cases hq : s.cmdQueue with
      | nil => exact .inr (.inr (.inr (.inr ⟨rfl, hp, rfl, step_host hr hp hq⟩)))
      | cons w rest =>
        cases hg : s.grain with
        | row => exact .inr (.inr (.inl ⟨w, rest, rfl, hp, rfl, rfl, step_accept hr hg hp hq⟩))
        | command => exact .inr (.inr (.inr (.inl ⟨w, rest, rfl, hp, rfl, rfl, step_command hr hg hp hq⟩)))
    · exact .inr (.inl ⟨rfl, hp, step_running hr hp⟩)

/-- One more step in front of a run. -/
theorem run_succ {s t : State} (n : Nat) (h : step s = .next t) : core.run (n + 1) s = core.run n t := by
  simp only [Host.Core.run, core, h]

/-- Runs compose. -/
theorem run_add {s t : State} {m : Nat} (n : Nat) (h : core.run m s = .next t) : core.run (m + n) s = core.run n t := by
  induction m generalizing s with
  | zero =>
    cases h
    rw [Nat.zero_add]
  | succ m ih =>
    rw [Nat.succ_add]
    cases hs : step s with
    | next u => rw [run_succ _ hs] at h ⊢; exact ih h
    | fault f => simp [Host.Core.run, core, hs] at h
    | refused r => simp [Host.Core.run, core, hs] at h

end Sys2Proof.Machine
end

