-- ==== Sys2Proof/Tests/Slice0.lean ====
section
/-! SUPPORT. The model's own tests: well-formedness, decoding of words written out from R91 and R95, the spec's vectors
(95_test_vectors.md; V, A, D, W, T, U name its rows) on small states, and a witness for the hypotheses of each obligation. -/

namespace Sys2Proof.Tests

open Sys2Proof Sys2Proof.Machine

/-! ### Well-formedness -/

/-- R93: output row 18 is outside 0..17. -/
theorem test_asm_row_18_illFormed : (Instr.asm 18 .both).wellFormed = false := by decide

theorem test_asm_row_31_illFormed : (Instr.asm 31 .plane0).wellFormed = false := by decide

theorem test_asm_row_17_wellFormed : (Instr.asm 17 .both).wellFormed = true := by decide

/-! ### Decoding: opc, z1, psel, z2, row, written out bit by bit (R91; D1 to D23) -/

theorem test_decode_clr : decode (0b0001#4 ++ 0b00#2 ++ 0b00#2 ++ 0b000#3 ++ 0b00000#5) = .ok .clr := by decide

theorem test_decode_asm : decode (0b0010#4 ++ 0b00#2 ++ 0b01#2 ++ 0b000#3 ++ 0b10001#5) = .ok (.asm 17 .plane1) := by decide

theorem test_decode_asm_both : decode (0b0010001000000101#16) = .ok (.asm 5 .both) := by decide

theorem test_decode_tx1 : decode (0b0011#4 ++ 0b00#2 ++ 0b00#2 ++ 0b000#3 ++ 0b00000#5) = .ok .tx1 := by decide

theorem test_decode_tx2 : decode (0b0100#4 ++ 0b00#2 ++ 0b01#2 ++ 0b000#3 ++ 0b00000#5) = .ok (.tx2 .plane1) := by decide

/-- D9 to D23: the illegal words. -/
theorem test_decode_illegal :
    [0x0000, 0xFFFF, 0x5000, 0x1001, 0x1100, 0x2012, 0x201F, 0x2300, 0x2020, 0x2400, 0x2800, 0x3100, 0x4200, 0x4300,
      0x4001].map (fun w : CmdWord => (decode w).toOption) = List.replicate 15 none := by decide

theorem test_encode_asm : encode (.asm 5 .both) = 0x2205#16 := by decide

theorem test_encode_tx2 : encode (.tx2 .plane1) = 0x4100#16 := by decide

/-- The table numbers a word's bits from the least significant; a bit beyond the table's is zero. -/
theorem test_decodeTableWord : decodeTableWord 16 0x2003 = some (.asm 3 .plane0) := by decide

/-! ### The tile transformer -/

/-- The tile of V17, which no mirrored or anti-transposed rotator passes. -/
def v17 : Pattern :=
  #v[0x12, 0x34, 0x56, 0x78, 0x9A, 0xBC, 0xDE, 0xF0, 0x0F, 0x1E, 0x2D, 0x3C, 0x4B, 0x5A, 0x69, 0x78]

theorem test_xform_v17_plane0 : xform v17 .plane0 = #v[0x30, 0x53, 0x05, 0xF0, 0x3F, 0x5C, 0xFA, 0x0F] := by decide +kernel

theorem test_xform_v17_plane1 : xform v17 .plane1 = #v[0x30, 0x53, 0xF5, 0xFF, 0x6F, 0xAC, 0x0A, 0x00] := by decide +kernel

theorem test_xform_v17_both : xform v17 .both = #v[0x30, 0x53, 0xF5, 0xFF, 0x6F, 0xFC, 0xAA, 0x05] := by decide +kernel

/-- V10: shade 1 everywhere prints the dither pattern itself. -/
theorem test_xform_v10 :
    xform (Vector.ofFn fun k : Fin 16 => if k.val % 2 = 0 then 0xFF#8 else 0) .both
      = #v[0xAA, 0x55, 0xAA, 0x55, 0xAA, 0x55, 0xAA, 0x55] := by decide +kernel

/-! ### States to test on -/

/-- A machine with every field given: row buffer bytes 0x00 to 0x9F (the start state of T1 and U1). -/
def bench : State :=
  { State.surroundings with
    params := { Config.resetParams with cmdPrintSendBytes := 0x42, ieVblMask := 1, nTrailer := 1 }
    rb := Vector.ofFn fun n => BitVec.ofNat 8 n.val
    status := ⟨false, true, true, 0⟩ }

/-- The machine with coming answers: to packet sends, to reads, to the printer query. -/
def bench.answering (sends : List Bool) (reads : List (Option Byte)) (queries : List Byte) : State :=
  { bench with link := ⟨sends, 0, reads, 0, queries, 0⟩ }

/-- The next state of an outcome. -/
def next (o : Host.Outcome State Fault Refusal) : State :=
  match o with
  | .next t => t
  | .fault _ => bench
  | .refused _ => bench

/-- One step in command grain with the word `w` presented. -/
def stepWord (w : CmdWord) (s : State) : State := next (step { s with cmdQueue := [w], grain := .command })

/-- The pattern bytes of id in the spec's test framebuffer F. -/
def patternF (id : Nat) : Memory := (List.range 16).map fun k => (16 * id + k, BitVec.ofNat 8 (7 * id + 13 * k))

/-- The cells of F that slot 0 of A20 and of A22 need: B(3,2) = 0x43 and W(0,0) = 0x80, with their patterns. -/
def fbF (wy : Nat) (winEn : Bool) : FrameBuffer := ⟨[(67, 0x43)], [(0, 0x80)], patternF 0x43 ++ patternF 0x80, 24, 16, wy, winEn⟩

/-! ### One step of each command -/

/-- D1: CLR from any RB. -/
theorem test_step_clr : (stepWord 0x1000 bench).rb = Vector.replicate 160 0 := by decide +kernel

theorem test_step_clr_status : (stepWord 0x1000 bench).status.word = 0x06 := by decide +kernel

/-- A20, slot 0: the background, scrolled by whole tiles, dithered. -/
theorem test_step_asm_a20 :
    (stepWord 0x2200 { bench with fb := fbF 0 false }).rb.toList.take 8 = [0xC1, 0xCE, 0xDE, 0x77, 0x6B, 0x66, 0xAA, 0x55] := by
  decide +kernel

/-- A22, slot 0: the window, plane 1; the scroll is ignored. -/
theorem test_step_asm_a22 :
    (stepWord 0x2103 { bench with fb := fbF 24 true }).rb.toList.take 8 = [0xF8, 0x39, 0x4A, 0x18, 0x96, 0xCC, 0x55, 0xFF] := by
  decide +kernel

/-- T1: the 166 payload bytes. -/
theorem test_step_tx1_t1 :
    payload (stepWord 0x3000 (bench.answering (List.replicate 4 true) (List.replicate 120 (some 7)) [])).trace
      = (List.range 160).map (BitVec.ofNat 8) ++ List.replicate 6 0 := by decide +kernel

/-- T3: packet 2 exhausts its retries: 21 events, STATUS 0x0A, EINFO 2. -/
theorem test_step_tx1_t3 :
    let t := stepWord 0x3000 (bench.answering ([true, true] ++ List.replicate 10 false) [] [])
    t.trace.length = 21 ∧ t.status.word = 0x0A ∧ t.einfo = 2 := by decide +kernel

/-- U2: the end of TX2 PLANE1: TXLEN 6, and TXB with what packet 12 left. -/
theorem test_step_tx2_u2 :
    let t := stepWord 0x4100 (bench.answering (List.replicate 14 true) [none] [])
    t.txlen = 6
      ∧ t.txb = #v[0x9C, 0x9D, 0x9E, 0x9F, 0x0D, 0x0A, 0x96, 0x97, 0x98, 0x99, 0x9A, 0x9B] := by decide +kernel

/-- U4: packet 5 of TX2 PLANE0 fails three times: 21 events, 161 payload bytes, STATUS 0x06. -/
theorem test_step_tx2_u4 :
    let t := stepWord 0x4000
      (bench.answering (List.replicate 5 true ++ [false, false, false] ++ List.replicate 9 true) [none] [])
    t.trace.length = 21 ∧ (payload t.trace).length = 161 ∧ t.status.word = 0x06 := by decide +kernel

/-- R27, in row grain: TX1 is accepted into PKT_LOAD, then loads packet 0, then makes its first transaction; one row a step. -/
theorem test_rows_tx1 :
    let s1 := next (step { bench.answering [true] [] [] with cmdQueue := [0x3000, 0x1000] })
    let s2 := next (step s1)
    let s3 := next (step s2)
    (s1.phase, s1.status.word, s1.trace.length) = (.pktLoad, 0x01, 0) ∧ (s2.phase, s2.att, s2.trace.length) = (.pktSend, 1, 0)
      ∧ (s3.phase, s3.pkt, s3.trace.length) = (.pktLoad, 1, 1) ∧ s3.cmdQueue = [0x1000] := by decide +kernel

/-- R27, in row grain: CLR takes two steps, and is over before the next word is accepted. -/
theorem test_rows_clr :
    let s1 := next (step { bench with cmdQueue := [0x1000] })
    let s2 := next (step s1)
    (s1.phase, s1.status.word) = (.clrRun, 0x01) ∧ (s2.phase, s2.status.word) = (.idle, 0x06)
      ∧ s2.rb = Vector.replicate 160 0 := by decide +kernel

/-- W4 and W5: ten failures, without and with the sleep after the last. -/
theorem test_retry_w4 :
    (sendPacketRetry (bench.answering (List.replicate 10 false) [] [])).2.trace.length = 19 := by decide +kernel

theorem test_retry_w5 :
    let s := bench.answering (List.replicate 10 false) [] []
    (sendPacketRetry { s with params := { s.params with retrySleepAfterLast := true } }).2.trace.length = 20 := by
  decide +kernel

/-- D14, and then D1 clears the error (R250). -/
theorem test_step_illegal_then_clr :
    let t := stepWord 0x2012 bench
    t.status.word = 0x12 ∧ t.einfo = 0x2012 ∧ t.rb = bench.rb
      ∧ (stepWord 0x1000 t).status.word = 0x06 ∧ (stepWord 0x1000 t).einfo = 0 := by decide +kernel

/-- J3: with a dead link the job ends false, IE is what it was, and nothing was sent. -/
theorem test_job_j3 :
    let r := printScreen { bench.answering (List.replicate 10 false) [] [1] with ie := 0x1F }
    r.1 = false ∧ r.2.ie = 0x1F ∧ payload r.2.trace = [] := by decide +kernel

/-! ### Witnesses: each shows a state and operands that meet an obligation's hypotheses -/

theorem witness_DecodeReadsBackEveryCommand :
    [Instr.clr, .asm 0 .plane0, .asm 17 .both, .tx1, .tx2 .plane0, .tx2 .plane1].all Instr.wellFormed = true := by decide

theorem witness_LegalWordIsTheWordOfItsCommand : decode 0x2211 = .ok (.asm 17 .both) := by decide

theorem witness_ResetEventAbandonsTheCommand :
    { bench with resetLine := true, phase := .pktSend }.resetLine = true := rfl

theorem witness_StepRunsTheDecodedCommand :
    let s := { bench with cmdQueue := [0x2111, 0x3000], grain := .command }
    s.resetLine = false ∧ s.grain = .command ∧ s.phase = .idle ∧ s.cmdQueue = 0x2111 :: [0x3000] ∧ decode 0x2111 = .ok (.asm 17 .plane1)
      ∧ decodeTableWord 16 0x3000 = some .tx1 := by decide

theorem witness_IllegalWordRaisesIllegalCommand :
    let s := { bench with cmdQueue := [0x2012] }
    s.resetLine = false ∧ s.phase = .idle ∧ s.cmdQueue = 0x2012 :: [] ∧ ∀ i, decode 0x2012 ≠ .ok i := by
  refine ⟨rfl, rfl, rfl, fun i h => ?_⟩
  cases h

/-- Both clauses on the latches: ASM (opcode 2) and TX1 (another). -/
theorem witness_AcceptanceLatchesAndClearsTheError :
    let s := { bench with cmdQueue := [0x2000] }
    let u := { bench with cmdQueue := [0x3000] }
    s.resetLine = false ∧ s.grain = .row ∧ s.phase = .idle ∧ s.cmdQueue = 0x2000 :: [] ∧ decode 0x2000 = .ok (.asm 0 .plane0) ∧ opcField 0x2000 = 2
      ∧ u.phase = .idle ∧ u.cmdQueue = 0x3000 :: [] ∧ decode 0x3000 = .ok .tx1 ∧ opcField 0x3000 ≠ 2 := by decide

theorem witness_PresentedWordWaitsWhileBusy :
    let s := { bench with phase := .clrRun, cmdQueue := [0x3000] }
    s.resetLine = false ∧ s.phase ≠ .idle ∧ step s = .next (complete true (clearRow s)) := ⟨rfl, by decide, rfl⟩

/-- Every command answers a next state; this is the hypothesis of the statements about all commands, about ASM, and about the
missed acknowledgements. -/
theorem witness_CommandsAnswer :
    (∃ t, exec .clr bench = .next t) ∧ (∃ t, exec (.asm 17 .both) bench = .next t) ∧ (∃ t, exec .tx1 bench = .next t)
      ∧ ∃ t, exec (.tx2 .plane1) bench = .next t := ⟨⟨_, rfl⟩, ⟨_, rfl⟩, ⟨_, rfl⟩, ⟨_, rfl⟩⟩

/-- The invariant holds of an idle state and of one in the middle of a transmit command. -/
theorem witness_EveryStepKeepsTheInvariant : bench.Inv :=
  ⟨by decide, by decide, by unfold State.widthsHold; decide,
    ⟨by decide, by decide, by decide, by decide, fun h => absurd h (by decide), by decide⟩, trivial, trivial⟩

/-- A transmit command on its last packet and last attempt, from which a step goes on. -/
def midTx2 : State :=
  { bench with status := Status.accepted, phase := .pktSend, ops := OperandLatches.ofInstr (.tx2 .plane1), pkt := 13, att := 10 }

theorem witness_EveryStepKeepsTheInvariant_running : midTx2.Inv ∧ ∃ t, step midTx2 = .next t := by
  refine ⟨⟨by decide, by decide, by unfold State.widthsHold; decide,
    ⟨by decide, by decide, by decide, by decide, fun h => absurd h (by decide), by decide⟩, ⟨.inr ⟨.plane1, rfl, by decide⟩, by decide, by decide⟩, trivial⟩, ?_⟩
  cases h : Config.linkSendAnswer 0
  · exact ⟨raiseTimeout (linkSendCmdBuf 0x42 midTx2).2, by
      simp [step, engineStep, engineRow, pktSend, linkSendCmdBuf, LinkLayer.nextSend, midTx2, bench, State.surroundings, h]
      rfl⟩
  · exact ⟨(linkSendCmdBuf 0x42 midTx2).2.setPhase .ackCr, by
      simp [step, engineStep, engineRow, pktSend, linkSendCmdBuf, LinkLayer.nextSend, midTx2, bench, State.surroundings, h]
      rfl⟩

/-- Law 6 and the three clauses of the parity rule: tiles without plane 1, in phase, out of phase, and neither. -/
theorem witness_DitherParity :
    let inPhase : Pattern := Vector.ofFn fun k => if k.val % 4 = 0 then 0xAA#8 else if k.val % 4 = 2 then 0x55#8 else 0
    let outOfPhase : Pattern := Vector.ofFn fun k => if k.val % 4 = 0 then 0x55#8 else if k.val % 4 = 2 then 0xAA#8 else 0
    let full : Pattern := Vector.ofFn fun k => if k.val % 2 = 0 then 0xFF#8 else 0
    (∀ j, planeRow inPhase .plane1 j = 0) ∧ (∀ j, planeRow outOfPhase .plane1 j = 0) ∧ (∀ j, planeRow full .plane1 j = 0)
      ∧ (∀ j : Fin 8, planeRow inPhase .plane0 j = planeRow full .plane0 j &&& (if j.val % 2 = 0 then 0xAA#8 else 0x55#8))
      ∧ (∀ i j : Fin 8, (planeRow inPhase .plane0 j).getLsbD (7 - i.val) = decide ((i.val + j.val) % 2 = 0))
      ∧ ∀ i j : Fin 8, (planeRow outOfPhase .plane0 j).getLsbD (7 - i.val) = decide ((i.val + j.val) % 2 = 1) := by
  decide +kernel

/-- Law 5's hypothesis: a tile without plane 0. -/
theorem witness_DitherLiesBetweenThePlanes :
    ∀ j, planeRow (Vector.ofFn fun k : Fin 16 => if k.val % 2 = 1 then 0x3C#8 else 0) .plane0 j = 0 := by decide +kernel

theorem witness_AsmAssemblesTheRow : (17#5).toNat ≤ 17 ∧ ∃ t, exec (.asm 17 .both) bench = .next t := ⟨by decide, _, rfl⟩

/-- The window test's clauses: disabled; WY = 0; WY above 136; and the boundary WY = 136 and 137 at row 17. -/
theorem witness_WindowTestFollowsWy :
    usingWindow 17 ⟨0, 0, 0, false⟩ = false ∧ usingWindow 0 ⟨0, 0, 0, true⟩ = true ∧ usingWindow 17 ⟨0, 0, 137, true⟩ = false
      ∧ usingWindow 17 ⟨0, 0, 136, true⟩ = true := by decide

/-- A14: with SCX = 24, SCY = 16, another id at B(22,2) changes slot 19, the last, of output row 0. -/
theorem witness_AsmBackgroundLocality :
    let s := { bench with fb := ⟨[], [], [(16, 0x80)], 24, 16, 0, false⟩ }
    ∃ t u, exec (.asm 0 .plane0) s = .next t ∧ exec (.asm 0 .plane0) { s with fb := s.fb.writeBkg 22 2 1 } = .next u
      ∧ u.rb[8 * 19 + 0] ≠ t.rb[8 * 19 + 0] := ⟨_, _, rfl, rfl, by decide +kernel⟩

/-- 31 and 287 are offsets of the same tile modulo 32. -/
theorem witness_AsmScrollByTilesModulo32 :
    let s := { bench with fb := { bench.fb with scx := 31, scy := 255 } }
    287 / 8 % 32 = s.fb.scx / 8 % 32 ∧ 248 / 8 % 32 = s.fb.scy / 8 % 32
      ∧ (∃ t, exec (.asm 17 .plane1) s = .next t)
      ∧ ∃ u, exec (.asm 17 .plane1) { s with fb := { s.fb with scx := 287, scy := 248 } } = .next u :=
  ⟨by decide, by decide, ⟨_, rfl⟩, ⟨_, rfl⟩⟩

/-- Success at the first and at the tenth attempt, and exhaustion. -/
theorem witness_RetryWrapperIsBounded :
    (bench.answering [true] [] []).sendsAnswered (failsThenSucceeds 0)
      ∧ (bench.answering (failsThenSucceeds 9) [] []).sendsAnswered (failsThenSucceeds 9)
      ∧ (bench.answering (List.replicate 10 false) [] []).sendsAnswered (List.replicate 10 false) :=
  ⟨rfl, rfl, rfl⟩

theorem witness_Tx1SendsTheRow :
    withinRetries [0, 9, 0, 1] ∧ (bench.answering (packetAnswers [0, 9, 0, 1]) (List.replicate 120 none) []).sendsAnswered (packetAnswers [0, 9, 0, 1])
      ∧ ∀ n < 120, (bench.answering (packetAnswers [0, 9, 0, 1]) (List.replicate 120 none) []).arrives n = false :=
  ⟨by unfold withinRetries; decide, rfl, by decide +kernel⟩

/-- The first packet exhausted, and the last. -/
theorem witness_Tx1StopsAtTheExhaustedPacket :
    let as := packetAnswers [9, 0, 0] ++ List.replicate 10 false
    withinRetries [] ∧ (bench.answering (List.replicate 10 false) [] []).sendsAnswered (packetAnswers [] ++ List.replicate 10 false)
      ∧ withinRetries [9, 0, 0] ∧ (bench.answering as [] []).sendsAnswered as :=
  ⟨by unfold withinRetries; decide, rfl, by unfold withinRetries; decide, rfl⟩

theorem witness_Tx2SendsThePlane :
    let fs := [9, 0, 0, 0, 0, 0, 0, 0, 0, 0, 0, 0, 9]
    let as := packetAnswers fs ++ failsThenSucceeds 9
    fs.length = 13 ∧ withinRetries fs ∧ (bench.answering as [none] []).sendsAnswered as
      ∧ (bench.answering as [none] []).arrives 0 = false :=
  ⟨rfl, by unfold withinRetries; decide, by unfold State.sendsAnswered; decide +kernel, by decide⟩

/-- Packet 0, packet 12 and the terminator packet exhausted. -/
theorem witness_Tx2StopsAtTheExhaustedPacket :
    [0, 12, 13].all (fun k =>
      let fs := List.replicate k 0
      let as := packetAnswers fs ++ List.replicate 10 false
      decide ((∀ f ∈ fs, f ≤ 9)
        ∧ (List.range as.length).map (bench.answering as [] []).link.sendAnswer = as)) = true := by decide +kernel

theorem witness_SequencingTableRunsThePseudocode :
    let s := { bench with cmdQueue := [0x4100, 0x1000] }
    s.resetLine = false ∧ s.grain = .row ∧ s.phase = .idle ∧ s.cmdQueue = 0x4100 :: [0x1000] ∧ decode 0x4100 = .ok (.tx2 .plane1) := by decide

theorem witness_FramebufferCellsAreSeparate : (fbF 0 true).bkg.wf ∧ (fbF 0 true).win.wf ∧ (fbF 0 true).pattern.wf := by
  decide +kernel

theorem witness_NoPrinterJobTouchesNothing : mapQuery (bench.answering [] [] [0]).link.nextQuery.1 = .fail := by decide

theorem witness_JobMasksTheVerticalBlank :
    let s := { bench.answering [] [] [3] with host := { bench.host with job := .querying }, ie := 0x1F }
    s.host.job = .querying ∧ mapQuery s.link.nextQuery.1 ≠ .fail := by decide

/-- A job on each kind of printer that ends true. -/
theorem witness_SuccessfulJobCounts_onePass :
    (printScreen (bench.answering (List.replicate 80 true) [] [1])).1 = true := by decide +kernel

theorem witness_SuccessfulJobCounts_twoPass :
    (printScreen (bench.answering (List.replicate 560 true) [] [2])).1 = true := by decide +kernel

theorem witness_DeadLinkEndsTheJobAfterTenAttempts :
    let s := bench.answering (List.replicate 10 false) [] [2]
    mapQuery s.link.nextQuery.1 ≠ .fail ∧ s.sendsAnswered (List.replicate 10 false) := ⟨by decide, rfl⟩

theorem witness_StepMakesAtMostOneTransaction :
    let s := { bench with phase := .pace, ops := OperandLatches.ofInstr .tx1 }
    s.grain = .row ∧ step s = .next (complete true (sleepMs 1000 s)) := ⟨rfl, rfl⟩

theorem witness_CoordinatorRunsPrintScreen :
    let s := { bench with host := { bench.host with request := true } }
    s.resetLine = false ∧ s.phase = .idle ∧ s.cmdQueue = [] ∧ s.host.job = .idle ∧ s.host.request = true
      ∧ 1 ≤ s.params.nTrailer := by decide

end Sys2Proof.Tests
end

section
/-! The frame of all four commands (O14): `sameSurroundings` is kept by each operation the commands are made of, so by
each command, and the framebuffer's cells and pattern bytes read as before because the framebuffer is part of it. -/

namespace Sys2Proof.Machine

/-! ### The surroundings as a relation -/

theorem State.sameSurroundings_refl (s : State) : s.sameSurroundings s := by
  simp [State.sameSurroundings]

theorem State.sameSurroundings.trans {s t u : State} (hst : s.sameSurroundings t) (htu : t.sameSurroundings u) :
    s.sameSurroundings u := by
  simp_all [State.sameSurroundings]

theorem State.sameSurroundings.fb_eq {s t : State} (h : s.sameSurroundings t) : t.fb = s.fb := by
  obtain ⟨-, hfb, -⟩ := h
  exact hfb

/-! ### Acceptance, completion, errors -/

theorem accept_sameSurroundings (i : Instr) (s : State) : s.sameSurroundings (accept i s) := by
  simp [State.sameSurroundings]

theorem complete_sameSurroundings (ok : Bool) (s : State) : s.sameSurroundings (complete ok s) := by
  simp [State.sameSurroundings]

theorem raiseTimeout_sameSurroundings (s : State) : s.sameSurroundings (raiseTimeout s) := by
  simp [State.sameSurroundings]

/-! ### The row assembler's operations -/

theorem clearRow_sameSurroundings (s : State) : s.sameSurroundings (clearRow s) := by
  simp [State.sameSurroundings]

theorem assembleRow_sameSurroundings (r : Nat) (psel : PlaneSel) (s : State) :
    s.sameSurroundings (assembleRow r psel s) := by
  simp [State.sameSurroundings]

/-! ### The transmitters' operations -/

theorem linkReadWait_sameSurroundings (ms : Nat) (s : State) : s.sameSurroundings (linkReadWait ms s) := by
  simp [State.sameSurroundings]

theorem loadTerminator_sameSurroundings (plane : Plane) (s : State) : s.sameSurroundings (loadTerminator plane s) := by
  simp [State.sameSurroundings]

/-- Whatever the link answers, the retry wrapper writes the trace, ATT and the link layer only (R163). -/
theorem sendPacketRetry_sameSurroundings (s : State) : s.sameSurroundings (sendPacketRetry s).2 := by
  rcases sendPacketRetry_cases s with ⟨f, -, -, hsent⟩ | ⟨-, hlost⟩
  · simp [hsent, State.sameSurroundings]
  · simp [hlost, State.sameSurroundings]

theorem sendPackets_sameSurroundings (ks : List (Fin 13)) (s : State) : s.sameSurroundings (sendPackets ks s).2 := by
  obtain ⟨-, -, -, -, -, -, h⟩ := sendPackets_frame ks s
  exact h

theorem bulkPhase_sameSurroundings (s : State) : s.sameSurroundings (bulkPhase s) := by
  simp [bulkPhase_eq, State.sameSurroundings]

theorem tailPhase_sameSurroundings (s : State) : s.sameSurroundings (tailPhase s) := by
  simp [tailPhase_eq, State.sameSurroundings]

theorem closeRow_sameSurroundings (s : State) : s.sameSurroundings (closeRow s) := by
  simp [closeRow, State.sameSurroundings]

/-! ### The transmit commands from their acceptance on -/

/-- Both ends of TX1: all its packets sent and the byte phases after them, or a packet lost. -/
theorem runTx1_sameSurroundings (s : State) : s.sameSurroundings (runTx1 s) := by
  have hpackets := sendPackets_sameSurroundings tx1Packets s
  simp only [runTx1]
  split
  · exact hpackets.trans <| (bulkPhase_sameSurroundings _).trans <| (tailPhase_sameSurroundings _).trans <|
      (closeRow_sameSurroundings _).trans (complete_sameSurroundings true _)
  · exact hpackets

/-- The three ends of TX2: everything sent, the terminator lost, or a data packet lost. -/
theorem runTx2_sameSurroundings (plane : Plane) (s : State) : s.sameSurroundings (runTx2 plane s) := by
  have hpackets := sendPackets_sameSurroundings (List.finRange 13) s
  have hterminator := (hpackets.trans (loadTerminator_sameSurroundings plane _)).trans
    (sendPacketRetry_sameSurroundings _)
  simp only [runTx2]
  split
  · split
    · exact hterminator.trans <| (linkReadWait_sameSurroundings Config.tAck _).trans (complete_sameSurroundings true _)
    · exact hterminator.trans (raiseTimeout_sameSurroundings _)
  · exact hpackets

/-! ### The commands -/

theorem exec_sameSurroundings {i : Instr} {s t : State} (h : exec i s = .next t) : s.sameSurroundings t := by
  have haccept := accept_sameSurroundings i s
  cases i with
  | clr =>
    cases h
    exact haccept.trans <| (clearRow_sameSurroundings _).trans (complete_sameSurroundings true _)
  | asm row psel =>
    cases h
    exact haccept.trans <| (assembleRow_sameSurroundings row.toNat psel _).trans (complete_sameSurroundings true _)
  | tx1 =>
    cases h
    exact haccept.trans (runTx1_sameSurroundings _)
  | tx2 plane =>
    cases h
    exact haccept.trans (runTx2_sameSurroundings plane _)

/-- Settles O14: every operation a command is made of keeps the surroundings, and the framebuffer is one of them. -/
theorem commandsLeaveTheSurroundings : Obligations.CommandsLeaveTheSurroundings := by
  intro i s t h
  have hsame := exec_sameSurroundings h
  have hfb : t.fb = s.fb := hsame.fb_eq
  refine ⟨hsame, fun col row => ?_, fun id k => ?_⟩
  · rw [hfb]
    exact ⟨rfl, rfl⟩
  · rw [hfb]

end Sys2Proof.Machine
end

section
/-! The inverse of the decoder: which word a decoded command came from (R91, R92). -/
namespace Sys2Proof

theorem PlaneSel.code_of_ofBits {b : BitVec 2} {psel : PlaneSel} (h : PlaneSel.ofBits b = some psel) : psel.code = b := by
  revert b; cases psel <;> decide

theorem PlaneSel.ofBits_code (psel : PlaneSel) : PlaneSel.ofBits psel.code = some psel := by
  cases psel <;> rfl

theorem Plane.code_of_ofBits {b : BitVec 2} {plane : Plane} (h : Plane.ofBits b = some plane) : plane.code = b := by
  revert b; cases plane <;> decide

theorem Plane.ofBits_code (plane : Plane) : Plane.ofBits plane.code = some plane := by
  cases plane <;> rfl

/-- What the fields of a word say when it decodes to `i`. -/
structure Instr.FieldsOf (i : Instr) (w : CmdWord) : Prop where
  opcode : i.opcode = opcField w
  row : i.rowBits = rowField w
  psel : i.pselBits = pselField w
  wellFormed : i.wellFormed = true

theorem checkReserved_ok {w : CmdWord} {k : Except DecodeRefusal Instr} {i : Instr} (h : checkReserved w k = .ok i) :
    k = .ok i := by
  unfold checkReserved at h
  split at h
  · cases h
  · exact h

/-- R92 step 3: CLR and TX1 have zero psel and row fields. -/
theorem decodeZ_ok {w : CmdWord} {i j : Instr} (h : decodeZ i w = .ok j) : j = i ∧ pselField w = 0 ∧ rowField w = 0 := by
  unfold decodeZ at h
  split_ifs at h with hpsel hrow
  cases h
  exact ⟨rfl, not_not.1 hpsel, not_not.1 hrow⟩

/-- R92 step 4. -/
theorem decodeP_ok {w : CmdWord} {i : Instr} (h : decodeP w = .ok i) :
    ∃ plane, i = .tx2 plane ∧ plane.code = pselField w ∧ rowField w = 0 := by
  unfold decodeP at h
  split at h
  · cases h
  · next plane hplane =>
    split_ifs at h with hrow
    cases h
    exact ⟨plane, rfl, Plane.code_of_ofBits hplane, not_not.1 hrow⟩

/-- R92 step 5. -/
theorem decodeRP_ok {w : CmdWord} {i : Instr} (h : decodeRP w = .ok i) :
    ∃ psel, i = .asm (rowField w) psel ∧ psel.code = pselField w ∧ (rowField w).toNat ≤ 17 := by
  unfold decodeRP at h
  split at h
  · cases h
  · next psel hpsel =>
    split_ifs at h with hrow
    cases h
    exact ⟨psel, rfl, PlaneSel.code_of_ofBits hpsel, not_lt.1 hrow⟩

/-- The word of a decoded command has the command's opcode, row and plane selector in its fields. -/
theorem decode_fields {w : CmdWord} {i : Instr} (h : decode w = .ok i) : i.FieldsOf w := by
  have hopc {n : Nat} {b : BitVec 4} (hn : (opcField w).toNat = n) (hb : b.toNat = n) : b = opcField w :=
    BitVec.eq_of_toNat_eq (hb.trans hn.symm)
  unfold decode at h
  split at h
  · next hn =>
    obtain ⟨rfl, hpsel, hrow⟩ := decodeZ_ok (checkReserved_ok h)
    exact ⟨hopc hn rfl, hrow.symm, hpsel.symm, rfl⟩
  · next hn =>
    obtain ⟨psel, rfl, hpsel, hrow⟩ := decodeRP_ok (checkReserved_ok h)
    exact ⟨hopc hn rfl, rfl, hpsel, decide_eq_true hrow⟩
  · next hn =>
    obtain ⟨rfl, hpsel, hrow⟩ := decodeZ_ok (checkReserved_ok h)
    exact ⟨hopc hn rfl, hrow.symm, hpsel.symm, rfl⟩
  · next hn =>
    obtain ⟨plane, rfl, hpsel, hrow⟩ := decodeP_ok (checkReserved_ok h)
    exact ⟨hopc hn rfl, hrow.symm, hpsel, rfl⟩
  · cases h

/-- The word of an ASM of an output row decodes (R93, R95). -/
theorem decode_encode_asm (row : BitVec 5) (psel : PlaneSel) (h : row.toNat ≤ 17) :
    decode (encode (.asm row psel)) = .ok (.asm row psel) := by
  revert row; cases psel <;> decide

theorem decode_encode_tx2 (plane : Plane) : decode (encode (.tx2 plane)) = .ok (.tx2 plane) := by
  cases plane <;> rfl

end Sys2Proof

namespace Sys2Proof.Machine

/-- The operand latches of a decoded command are its word's fields (R24). -/
theorem OperandLatches.ofInstr_of_decode {w : CmdWord} {i : Instr} (h : decode w = .ok i) :
    OperandLatches.ofInstr i = ⟨opcField w, rowField w, pselField w⟩ := by
  obtain ⟨hopc, hrow, hpsel, -⟩ := decode_fields h
  rw [OperandLatches.ofInstr, hopc, hrow, hpsel]

/-! ### The STATUS words (R36) -/

theorem Status.accepted_word : Status.accepted.word = 0x01 := by decide

theorem Status.completed_word : (Status.completed true).word = 0x06 := by decide

theorem Status.timedOut_word : (Status.raised .packetSendTimeout).word = 0x0A := by decide

/-! ### Reset (R45) -/

/-- Settles O6: the reset state is a draw of the unspecified registers, which fixes PHASE, STATUS and EINFO. -/
theorem resetLeavesTheFixedRows : Obligations.ResetLeavesTheFixedRows := by
  refine ⟨State.drawUnspecified_phase 0 _, ?_, State.drawUnspecified_einfo 0 _⟩
  rw [State.reset, State.drawUnspecified_status]
  rfl

/-! ### Acceptance -/

theorem execWord_of_decode {w : CmdWord} {i : Instr} (h : decode w = .ok i) (s : State) : execWord w s = exec i s := by
  simp only [execWord, h]

theorem acceptWord_of_decode {w : CmdWord} {i : Instr} (h : decode w = .ok i) (s : State) :
    acceptWord w s = ((accept i s).setPkt (firstPkt i s.pkt)).setPhase (firstPhase i) := by
  simp only [acceptWord, h]

theorem decode_of_decodeTableWord {nbits w : Nat} {i : Instr} (h : decodeTableWord nbits w = some i) :
    decode (wordOfTable nbits w) = .ok i := by
  unfold decodeTableWord at h
  split at h
  · next j hj =>
    rw [hj, Option.some.inj h]
  · cases h

/-- Settles O8: in command grain the idle engine runs `execWord` on the state without the word, and `withFetchWord` makes such
a state. -/
theorem stepRunsTheDecodedCommand : Obligations.StepRunsTheDecodedCommand := by
  refine ⟨fun s w rest i hreset hgrain hphase hqueue hdec => ?_, fun s nbits w i hdec => ?_⟩
  · rw [step_command hreset hgrain hphase hqueue, execWord_of_decode hdec]
    rfl
  · rw [step_command (w := wordOfTable nbits w) (rest := s.cmdQueue) rfl rfl rfl rfl,
      execWord_of_decode (decode_of_decodeTableWord hdec)]
    rfl

theorem engineStep_accept {s : State} {w : CmdWord} {rest : List CmdWord} (hphase : s.phase = .idle)
    (hqueue : s.cmdQueue = w :: rest) : engineStep s = .next (acceptWord w (s.setQueue rest)) := by
  simp [engineStep, engineRow, hphase, hqueue]

/-- The configuration latches are sampled by the opcode of ASM and by no other (R24). -/
theorem accept_cfg (i : Instr) (s : State) :
    (accept i s).cfg = if i.opcode = 2 then ConfigLatches.sample s.fb else s.cfg := by
  cases i <;> rfl

/-- Settles O11: the accepted state is the row IDLE of R27 written out, and its latches are the word's fields because the word
decodes. -/
theorem acceptanceLatchesAndClearsTheError : Obligations.AcceptanceLatchesAndClearsTheError := by
  intro s w rest i hphase hqueue hdec
  have hrow := acceptWord_of_decode hdec (s.setQueue rest)
  have hopc := (decode_fields hdec).opcode
  have hcfg := accept_cfg i (s.setQueue rest)
  refine ⟨_, engineStep_accept hphase hqueue, fun hreset hgrain => step_accept hreset hgrain hphase hqueue, ?_⟩
  rw [hrow]
  refine ⟨Status.accepted_word, rfl, rfl, ?_, ?_, OperandLatches.ofInstr_of_decode hdec, fun h => ?_, fun h => ?_, rfl⟩
  · cases i <;> rfl
  · cases i <;> rfl
  · exact hcfg.trans (if_pos (hopc.trans h))
  · exact hcfg.trans (if_neg fun h' => h (hopc.symm.trans h'))

end Sys2Proof.Machine
end

section
/-! How a command ends (O13): both transmitters end in `complete` or in the raise of a lost packet, the row assembler's commands
in `complete`; and what they have written by then. -/

namespace Sys2Proof.Machine

/-! ### What a transmit command leaves alone, as relations -/

theorem State.sameForTransmit.trans {s t u : State} (hst : s.sameForTransmit t) (htu : t.sameForTransmit u) :
    s.sameForTransmit u := by
  obtain ⟨hrb, htile, hcfg, hsame⟩ := hst
  obtain ⟨hrb', htile', hcfg', hsame'⟩ := htu
  exact ⟨hrb'.trans hrb, htile'.trans htile, hcfg'.trans hcfg, hsame.trans hsame'⟩

theorem State.onlyPackets.trans {s t u : State} (hst : s.onlyPackets t) (htu : t.onlyPackets u) : s.onlyPackets u := by
  cases s
  cases t
  cases u
  simp_all [State.onlyPackets]

theorem State.onlyPackets.sameForTransmit {s t : State} (h : s.onlyPackets t) : s.sameForTransmit t := by
  have hfields := State.onlyPackets_congr h
  simp_all [State.sameForTransmit, State.sameSurroundings]

theorem State.onlyPackets.status_eq {s t : State} (h : s.onlyPackets t) : t.status = s.status := by
  obtain ⟨-, -, -, -, -, -, -, -, hstatus, -⟩ := State.onlyPackets_congr h
  exact hstatus

theorem State.onlyPackets.einfo_eq {s t : State} (h : s.onlyPackets t) : t.einfo = s.einfo := by
  obtain ⟨-, -, -, -, -, -, -, -, -, heinfo, -⟩ := State.onlyPackets_congr h
  exact heinfo

theorem State.onlyPackets.ops_eq {s t : State} (h : s.onlyPackets t) : t.ops = s.ops := by
  obtain ⟨-, -, -, -, hops, -⟩ := State.onlyPackets_congr h
  exact hops

/-! ### The packet phase -/

theorem loadPacket_onlyPackets (k : Fin 13) (s : State) : s.onlyPackets (loadPacket k s) := by
  simp [State.onlyPackets]

theorem loadTerminator_onlyPackets (plane : Plane) (s : State) : s.onlyPackets (loadTerminator plane s) := by
  simp [State.onlyPackets]

theorem afterPacket_onlyPackets (k : Fin 13) (f : Nat) (s : State) : s.onlyPackets (s.afterPacket k f) := by
  simp [State.onlyPackets, State.afterPacket]

theorem afterLostPacket_onlyPackets (k : Fin 13) (s : State) : s.onlyPackets (s.afterLostPacket k) := by
  simp [State.onlyPackets, State.afterLostPacket]

/-- The retry wrapper keeps PKT, and writes nothing but the trace, ATT and the link layer (R163). -/
theorem sendPacketRetry_frame (s : State) :
    s.onlyPackets (sendPacketRetry s).2 ∧ (sendPacketRetry s).2.pkt = s.pkt := by
  rcases sendPacketRetry_cases s with ⟨f, -, -, hsent⟩ | ⟨-, hlost⟩
  · rw [hsent]
    exact ⟨rfl, rfl⟩
  · rw [hlost]
    exact ⟨rfl, rfl⟩

/-- Everything the packet loop can do: all packets sent, or the raise for the one that exhausted its retries. -/
theorem sendPackets_cases (ks : List (Fin 13)) (s : State) :
    (∃ u, sendPackets ks s = (true, u) ∧ s.onlyPackets u)
      ∨ ∃ u, sendPackets ks s = (false, raiseTimeout u) ∧ s.onlyPackets u ∧ u.pkt.toNat ≤ 12 := by
  induction ks generalizing s with
  | nil => exact .inl ⟨s, rfl, rfl⟩
  | cons k ks ih =>
    rcases sendsAnswered_cases 10 s with ⟨f, hf, hsent⟩ | hlost
    · have hpacket := afterPacket_onlyPackets k f s
      rw [sendPackets_cons_success k ks s f (by omega) hsent]
      rcases ih (s.afterPacket k f) with ⟨u, hu, honly⟩ | ⟨u, hu, honly, hpkt⟩
      · exact .inl ⟨u, hu, hpacket.trans honly⟩
      · exact .inr ⟨u, hu, hpacket.trans honly, hpkt⟩
    · refine .inr ⟨_, sendPackets_cons_exhausted k ks s hlost, afterLostPacket_onlyPackets k s, ?_⟩
      simp only [State.afterLostPacket, BitVec.toNat_ofNat]
      omega

/-! ### The ends of the transmit commands -/

/-- The two ends of a transmit command from the state `s` of its acceptance on (R161, R191): the completion, EINFO as it was,
or the raise for a packet in the range of PKT (R168, R195). -/
inductive State.TransmitEnd (s : State) : State → Prop
  | completed (u : State) (hsame : s.sameForTransmit u) (heinfo : u.einfo = s.einfo) : s.TransmitEnd (complete true u)
  | timedOut (u : State) (hsame : s.sameForTransmit u) (hpkt : u.pkt.toNat ≤ 13) : s.TransmitEnd (raiseTimeout u)

theorem bulkPhase_frame (s : State) : s.sameForTransmit (bulkPhase s) ∧ (bulkPhase s).einfo = s.einfo := by
  simp [bulkPhase_eq, State.sameForTransmit, State.sameSurroundings]

theorem tailPhase_frame (s : State) : s.sameForTransmit (tailPhase s) ∧ (tailPhase s).einfo = s.einfo := by
  simp [tailPhase_eq, State.sameForTransmit, State.sameSurroundings]

theorem closeRow_frame (s : State) : s.sameForTransmit (closeRow s) ∧ (closeRow s).einfo = s.einfo := by
  simp [closeRow, State.sameForTransmit, State.sameSurroundings]

/-- The phases of TX1 behind its packets (R164 to R167). -/
theorem bytePhases_frame (s : State) :
    s.sameForTransmit (closeRow (tailPhase (bulkPhase s))) ∧ (closeRow (tailPhase (bulkPhase s))).einfo = s.einfo := by
  obtain ⟨hbulk, hbulk'⟩ := bulkPhase_frame s
  obtain ⟨htail, htail'⟩ := tailPhase_frame (bulkPhase s)
  obtain ⟨hclose, hclose'⟩ := closeRow_frame (tailPhase (bulkPhase s))
  exact ⟨hbulk.trans (htail.trans hclose), hclose'.trans (htail'.trans hbulk')⟩

theorem runTx1_end (s : State) : s.TransmitEnd (runTx1 s) := by
  rcases sendPackets_cases tx1Packets s with ⟨u, hsent, honly⟩ | ⟨u, hlost, honly, hpkt⟩
  · obtain ⟨hsame, heinfo⟩ := bytePhases_frame u
    simp only [runTx1, hsent, if_true]
    exact .completed _ (honly.sameForTransmit.trans hsame) (heinfo.trans honly.einfo_eq)
  · simp only [runTx1, hlost]
    exact .timedOut u honly.sameForTransmit (by omega)

/-- The terminator packet of TX2 and its read (R193, R194). -/
theorem terminator_frame (plane : Plane) (s : State) :
    s.onlyPackets (sendPacketRetry (loadTerminator plane s)).2
      ∧ (sendPacketRetry (loadTerminator plane s)).2.pkt = 13 := by
  obtain ⟨honly, hpkt⟩ := sendPacketRetry_frame (loadTerminator plane s)
  exact ⟨(loadTerminator_onlyPackets plane s).trans honly, hpkt⟩

theorem linkReadWait_sameForTransmit (ms : Nat) (s : State) : s.sameForTransmit (linkReadWait ms s) := by
  simp [State.sameForTransmit, State.sameSurroundings]

theorem runTx2_end (plane : Plane) (s : State) : s.TransmitEnd (runTx2 plane s) := by
  rcases sendPackets_cases (List.finRange 13) s with ⟨u, hsent, honly⟩ | ⟨u, hlost, honly, hpkt⟩
  · obtain ⟨hterm, hpkt⟩ := terminator_frame plane u
    have hall := honly.trans hterm
    simp only [runTx2, hsent, if_true]
    split
    · exact .completed _ (hall.sameForTransmit.trans (linkReadWait_sameForTransmit Config.tAck _))
        ((linkReadWait_einfo _ _).trans hall.einfo_eq)
    · exact .timedOut _ hall.sameForTransmit (by rw [hpkt]; decide)
  · simp only [runTx2, hlost]
    exact .timedOut u honly.sameForTransmit (by omega)

/-! ### The ends of the commands -/

/-- Everything a command can end as: CLR and ASM complete on the row they have made, a transmit command in one of its two
ends. -/
theorem exec_cases {i : Instr} {s t : State} (h : exec i s = .next t) :
    (i = .clr ∧ t = complete true (clearRow (accept .clr s)))
      ∨ (∃ row psel, i = .asm row psel ∧ t = complete true (assembleRow row.toNat psel (accept (.asm row psel) s)))
      ∨ ((i = .tx1 ∨ ∃ plane, i = .tx2 plane) ∧ (accept i s).TransmitEnd t) := by
  cases i with
  | clr => cases h; exact .inl ⟨rfl, rfl⟩
  | asm row psel => cases h; exact .inr (.inl ⟨row, psel, rfl, rfl⟩)
  | tx1 => cases h; exact .inr (.inr ⟨.inl rfl, runTx1_end _⟩)
  | tx2 plane => cases h; exact .inr (.inr ⟨.inr ⟨plane, rfl⟩, runTx2_end plane _⟩)

/-- Settles O13: by the ends of the commands, and the STATUS words of the completion and of the raise. -/
theorem commandEndsWithDoneStatus : Obligations.CommandEndsWithDoneStatus := by
  intro i s t h
  rcases exec_cases h with ⟨-, rfl⟩ | ⟨row, psel, -, rfl⟩ | ⟨hi, hend⟩
  · exact ⟨rfl, .inl Status.completed_word⟩
  · exact ⟨rfl, .inl Status.completed_word⟩
  · cases hend with
    | completed u => exact ⟨rfl, .inl Status.completed_word⟩
    | timedOut u => exact ⟨rfl, .inr ⟨Status.timedOut_word, hi⟩⟩

end Sys2Proof.Machine
end

section
/-! The rows of R27 that a running engine takes, said once: the inversion of `engineRow`. What a step of a running engine
writes, records and leaves alone (O12, O49) is read off it. -/

namespace Sys2Proof.Machine

/-- The rows of R27 for a running engine, one constructor per outcome of a row: the state of the row's PHASE, what the row
tests, and the state it leads to. -/
inductive EngineMove (s : State) : State → Prop
  | clear (hp : s.phase = .clrRun) : EngineMove s (complete true (clearRow s))
  | assemble (hp : s.phase = .asmRun) (psel : PlaneSel) :
      EngineMove s (complete true (assembleRow s.ops.rowr.toNat psel s))
  | loadData (hp : s.phase = .pktLoad) (k : Fin 13) (hk : s.pkt = BitVec.ofNat 4 k.val) :
      EngineMove s (((loadPacket k s).setAtt 1).setPhase .pktSend)
  | loadLast (hp : s.phase = .pktLoad) (plane : Plane) (hk : s.pkt = 13) :
      EngineMove s (((loadTerminator plane s).setAtt 1).setPhase .pktSend)
  | sent (hp : s.phase = .pktSend) (last : Nat) (hlast : lastPacket s.ops.opc = some last) (hk : s.pkt.toNat < last) :
      EngineMove s (((linkSendCmdBuf s.params.cmdPrintSendBytes s).2.setPkt (s.pkt + 1)).setPhase .pktLoad)
  | sentLastOfTx1 (hp : s.phase = .pktSend) (hopc : s.ops.opc = 3) :
      EngineMove s (((linkSendCmdBuf s.params.cmdPrintSendBytes s).2.setIdx 0).setPhase .bulkWait)
  | sentLastOfTx2 (hp : s.phase = .pktSend) (hopc : s.ops.opc = 4) :
      EngineMove s ((linkSendCmdBuf s.params.cmdPrintSendBytes s).2.setPhase .ackCr)
  | notSent (hp : s.phase = .pktSend) :
      EngineMove s ((linkSendCmdBuf s.params.cmdPrintSendBytes s).2.setPhase .pktBackoff)
  | exhausted (hp : s.phase = .pktSend) :
      EngineMove s (raiseTimeout (linkSendCmdBuf s.params.cmdPrintSendBytes s).2)
  | again (hp : s.phase = .pktBackoff) (ha : s.att.toNat < 10) :
      EngineMove s (((sleepMs Config.tRetry s).setAtt (s.att + 1)).setPhase .pktSend)
  | exhaustedAfterSleep (hp : s.phase = .pktBackoff) : EngineMove s (raiseTimeout (sleepMs Config.tRetry s))
  | bulkReady (hp : s.phase = .bulkWait) : EngineMove s ((linkReadWait Config.tReady s).setPhase .bulkEmit)
  | bulkByte (hp : s.phase = .bulkEmit) (b : Byte) (hi : s.idx.toNat < 111) :
      EngineMove s (((linkSendByte b s).setIdx (s.idx + 1)).setPhase .bulkWait)
  | bulkLastByte (hp : s.phase = .bulkEmit) (b : Byte) : EngineMove s (((linkSendByte b s).setIdx 0).setPhase .tailWait)
  | tailReady (hp : s.phase = .tailWait) : EngineMove s ((linkReadWait Config.tReady s).setPhase .tailEmit)
  | tailByte (hp : s.phase = .tailEmit) (hi : s.idx.toNat < 5) :
      EngineMove s (((linkSendByte Config.tailByte s).setIdx (s.idx + 1)).setPhase .tailWait)
  | tailLastByte (hp : s.phase = .tailEmit) : EngineMove s ((linkSendByte Config.tailByte s).setPhase .ack1)
  | firstAck (hp : s.phase = .ack1) : EngineMove s ((linkReadWait Config.tAck s).setPhase .ack2)
  | secondAck (hp : s.phase = .ack2) : EngineMove s ((linkReadWait Config.tAck s).setPhase .pace)
  | paced (hp : s.phase = .pace) : EngineMove s (complete true (sleepMs Config.tRow s))
  | acked (hp : s.phase = .ackCr) : EngineMove s (complete true (linkReadWait Config.tAck s))

/-! ### The rows with a test, inverted -/

theorem loadCurrent_cases {s t : State} (h : loadCurrent s = some t) :
    (∃ k : Fin 13, s.pkt = BitVec.ofNat 4 k.val ∧ t = loadPacket k s)
      ∨ ∃ plane, s.pkt = 13 ∧ t = loadTerminator plane s := by
  have hdata (hle : s.pkt.toNat ≤ 12) : s.pkt = BitVec.ofNat 4 (Fin.ofNat 13 s.pkt.toNat).val := by
    rw [Fin.val_ofNat, Nat.mod_eq_of_lt (by omega), BitVec.ofNat_toNat, BitVec.setWidth_eq]
  unfold loadCurrent at h
  split_ifs at h with h3 hle h4 hle hlast
  · exact .inl ⟨_, hdata (by omega), (Option.some.inj h).symm⟩
  · exact .inl ⟨_, hdata hle, (Option.some.inj h).symm⟩
  · obtain ⟨plane, -, rfl⟩ := Option.map_eq_some_iff.1 h
    exact .inr ⟨plane, BitVec.eq_of_toNat_eq hlast, rfl⟩

theorem lastPacket_cases {opc : BitVec 4} {last : Nat} (h : lastPacket opc = some last) :
    (opc = 3 ∧ last = 3) ∨ (opc = 4 ∧ last = 13) := by
  unfold lastPacket at h
  split_ifs at h with h3 h4
  · exact .inl ⟨h3, (Option.some.inj h).symm⟩
  · exact .inr ⟨h4, (Option.some.inj h).symm⟩

theorem afterPacket_cases {s t : State} (h : afterPacket s = some t) :
    (∃ last, lastPacket s.ops.opc = some last ∧ s.pkt.toNat < last ∧ t = (s.setPkt (s.pkt + 1)).setPhase .pktLoad)
      ∨ (s.ops.opc = 3 ∧ t = (s.setIdx 0).setPhase .bulkWait)
      ∨ (s.ops.opc = 4 ∧ t = s.setPhase .ackCr) := by
  unfold afterPacket at h
  split at h
  · cases h
  · next last hlast =>
    split_ifs at h with hlt heq h3
    · exact .inl ⟨last, hlast, hlt, (Option.some.inj h).symm⟩
    · exact .inr (.inl ⟨h3, (Option.some.inj h).symm⟩)
    · rcases lastPacket_cases hlast with ⟨hopc, -⟩ | ⟨hopc, -⟩
      · exact absurd hopc h3
      · exact .inr (.inr ⟨hopc, (Option.some.inj h).symm⟩)

theorem afterFailedAttempt_cases {s t : State} (h : afterFailedAttempt s = some t) :
    t = s.setPhase .pktBackoff ∨ t = raiseTimeout s := by
  unfold afterFailedAttempt at h
  split_ifs at h
  · exact .inl (Option.some.inj h).symm
  · exact .inr (Option.some.inj h).symm

theorem pktSend_move {s t : State} (hp : s.phase = .pktSend) (h : pktSend s = some t) : EngineMove s t := by
  simp only [pktSend] at h
  split at h
  · rcases afterPacket_cases h with ⟨last, hlast, hk, rfl⟩ | ⟨hopc, rfl⟩ | ⟨hopc, rfl⟩
    · exact .sent hp last hlast hk
    · exact .sentLastOfTx1 hp hopc
    · exact .sentLastOfTx2 hp hopc
  · rcases afterFailedAttempt_cases h with rfl | rfl
    · exact .notSent hp
    · exact .exhausted hp

theorem afterBackoff_move {s t : State} (hp : s.phase = .pktBackoff)
    (h : afterBackoff (sleepMs Config.tRetry s) = some t) : EngineMove s t := by
  unfold afterBackoff at h
  split_ifs at h with hlt
  · cases h; exact .again hp hlt
  · cases h; exact .exhaustedAfterSleep hp

theorem bulkEmit_move {s t : State} (hp : s.phase = .bulkEmit) (h : bulkEmit s = some t) : EngineMove s t := by
  unfold bulkEmit at h
  split_ifs at h with hidx hlt
  · cases h; exact .bulkByte hp _ hlt
  · cases h; exact .bulkLastByte hp _

theorem tailEmit_move {s t : State} (hp : s.phase = .tailEmit) (h : tailEmit s = some t) : EngineMove s t := by
  unfold tailEmit at h
  split_ifs at h with hlt
  · cases h; exact .tailByte hp hlt
  · cases h; exact .tailLastByte hp

/-- A row of R27 that a running engine takes is one of the moves. -/
theorem engineRow_move {s t : State} (hrun : s.phase ≠ .idle) (h : engineRow s = some t) : EngineMove s t := by
  unfold engineRow at h
  split at h
  case h_1 hp => exact absurd hp hrun
  case h_2 hp => cases h; exact .clear hp
  case h_3 hp =>
    obtain ⟨psel, -, rfl⟩ := Option.map_eq_some_iff.1 h
    exact .assemble hp psel
  case h_4 hp =>
    obtain ⟨u, hload, rfl⟩ := Option.map_eq_some_iff.1 h
    rcases loadCurrent_cases hload with ⟨k, hk, rfl⟩ | ⟨plane, hk, rfl⟩
    · exact .loadData hp k hk
    · exact .loadLast hp plane hk
  case h_5 hp => exact pktSend_move hp h
  case h_6 hp => exact afterBackoff_move hp h
  case h_7 hp => cases h; exact .bulkReady hp
  case h_8 hp => exact bulkEmit_move hp h
  case h_9 hp => cases h; exact .tailReady hp
  case h_10 hp => exact tailEmit_move hp h
  case h_11 hp => cases h; exact .firstAck hp
  case h_12 hp => cases h; exact .secondAck hp
  case h_13 hp => cases h; exact .paced hp
  case h_14 hp => cases h; exact .acked hp

theorem engineStep_eq_next {s t : State} : engineStep s = .next t ↔ engineRow s = some t := by
  unfold engineStep
  cases engineRow s <;> simp

end Sys2Proof.Machine
end

section
/-! What a step writes, records and leaves alone, read off the moves: the port of a running engine (O12) and the trace (O49). -/

namespace Sys2Proof.Machine

/-- No row of a running engine writes what surrounds the engine. -/
theorem EngineMove.sameSurroundings {s t : State} (h : EngineMove s t) : s.sameSurroundings t := by
  cases h <;> simp [State.sameSurroundings]

/-- A row of R27 makes at most one link or timer transaction. -/
theorem EngineMove.trace {s t : State} (h : EngineMove s t) : t.trace = s.trace ∨ ∃ e, t.trace = s.trace ++ [e] := by
  cases h <;> simp

theorem step_running_move {s t : State} (hreset : s.resetLine = false) (hrun : s.phase ≠ .idle) (h : step s = .next t) :
    EngineMove s t := by
  rw [step_running hreset hrun, engineStep_eq_next] at h
  exact engineRow_move hrun h

/-- Settles O12: a step of a running engine is a row of R27, and the port is among the surroundings that no row writes. -/
theorem presentedWordWaitsWhileBusy : Obligations.PresentedWordWaitsWhileBusy := by
  intro s t hreset hrun h
  obtain ⟨-, -, -, hqueue, -⟩ := (step_running_move hreset hrun h).sameSurroundings
  exact hqueue

/-! ### The host's moves -/

/-- A move of the host writes the link layer (the query's answer), IE, the port and the coordinator only. -/
def State.onlyHost (s t : State) : Prop :=
  { t with link := s.link, ie := s.ie, cmdQueue := s.cmdQueue, host := s.host } = s

theorem State.onlyHost_congr {s t : State} (h : s.onlyHost t) :
    t.params = s.params ∧ t.tile = s.tile ∧ t.cfg = s.cfg ∧ t.phase = s.phase ∧ t.status = s.status ∧ t.einfo = s.einfo
      ∧ t.fb = s.fb ∧ t.trace = s.trace := by
  cases s
  cases t
  simp_all [State.onlyHost]

theorem queryPrinter_onlyHost (s : State) : s.onlyHost (queryPrinter s) := by
  simp only [queryPrinter]
  split <;> rfl

theorem rowMove_onlyHost (s : State) : s.onlyHost (rowMove s) := by
  unfold rowMove
  split
  · split
    · split <;> rfl
    · rfl
  · split <;> rfl

theorem hostStep_onlyHost (s : State) : s.onlyHost (hostStep s) := by
  unfold hostStep
  split
  case h_1 => split <;> rfl
  case h_2 => exact queryPrinter_onlyHost s
  case h_3 => exact rowMove_onlyHost s
  case h_4 => exact rowMove_onlyHost s
  case h_5 => exact rowMove_onlyHost s
  case h_6 => rfl

theorem hostStep_trace (s : State) : (hostStep s).trace = s.trace := by
  obtain ⟨-, -, -, -, -, -, -, htrace⟩ := State.onlyHost_congr (hostStep_onlyHost s)
  exact htrace

/-- Acceptance makes no transaction, whether the word is legal or not. -/
theorem acceptWord_trace (w : CmdWord) (s : State) : (acceptWord w s).trace = s.trace := by
  unfold acceptWord
  split <;> simp

/-- Settles O49: by the five cases of a step, of which row grain excludes the whole command, and only a row of a running engine
records anything. -/
theorem stepMakesAtMostOneTransaction : Obligations.StepMakesAtMostOneTransaction := by
  intro s t hgrain h
  rcases step_cases s with ⟨-, hs⟩ | ⟨hreset, hrun, -⟩ | ⟨w, rest, -, -, -, -, hs⟩ | ⟨-, -, -, -, hcmd, -⟩ | ⟨-, -, -, hs⟩
  · cases hs.symm.trans h
    exact .inl (resetEvent_trace s)
  · exact (step_running_move hreset hrun h).trace
  · cases hs.symm.trans h
    exact .inl (acceptWord_trace w _)
  · exact absurd (hgrain.symm.trans hcmd) (by decide)
  · cases hs.symm.trans h
    exact .inl (hostStep_trace s)

end Sys2Proof.Machine
end

section
/-! The parts of the invariant, each kept for its own reason: the widths of the latches, the agreement of STATUS with EINFO and
PHASE, and the counters of R27. -/

namespace Sys2Proof.Machine

/-! ### Widths (R8, R23, R24) -/

theorem cellRead_lt {b : Nat} (hb : unlistedId < b) {m : TileMap} (hm : ∀ c ∈ m, c.2 < b) (a : Nat) :
    cellRead unlistedId m a < b := by
  induction m with
  | nil => exact hb
  | cons c m ih =>
    rw [List.forall_mem_cons] at hm
    unfold cellRead
    split
    · exact hm.1
    · exact ih hm.2

/-- Every tile id the iterator reads has W_ID bits. -/
theorem sourceTile_lt {p : Params} {fb : FrameBuffer} (hfb : fb.wf p) (c : ConfigLatches) (r t : Nat) :
    sourceTile fb c r t < 2 ^ p.wId := by
  obtain ⟨-, -, -, hbkg, hwin, -⟩ := hfb
  unfold sourceTile
  split
  · exact cellRead_lt (Nat.two_pow_pos _) (fun c hc => (hwin c hc).2) _
  · exact cellRead_lt (Nat.two_pow_pos _) (fun c hc => (hbkg c hc).2) _

theorem assembleTiles_tid_lt {p : Params} (r : Nat) (psel : PlaneSel) (ts : List (Fin 20)) (s : State)
    (hfb : s.fb.wf p) (htid : s.tile.tid < 2 ^ p.wId) : (ts.foldl (assembleTile r psel) s).tile.tid < 2 ^ p.wId := by
  induction ts generalizing s with
  | nil => exact htid
  | cons t ts ih => exact ih (assembleTile r psel s t) hfb (sourceTile_lt hfb s.cfg r t.val)

theorem assembleRow_widthsHold {r : Nat} {psel : PlaneSel} {s : State} (hfb : s.fb.wf s.params) (h : s.widthsHold) :
    (assembleRow r psel s).widthsHold := by
  obtain ⟨htid, hrest⟩ := h
  have hrow : (assembleRow r psel s).tile.tid < 2 ^ s.params.wId := assembleTiles_tid_lt r psel _ s hfb htid
  simpa only [State.widthsHold, assembleRow_params, assembleRow_cfg, assembleRow_ie] using And.intro hrow hrest

/-- Acceptance latches what the framebuffer layer presents, or nothing (R24). -/
theorem accept_widthsHold {i : Instr} {s : State} (hfb : s.fb.wf s.params) (h : s.widthsHold) : (accept i s).widthsHold := by
  obtain ⟨htid, -, -, -, hie⟩ := id h
  obtain ⟨-, -, -, -, -, -, hscx, hscy, hwy⟩ := hfb
  cases i with
  | asm row psel => exact ⟨htid, hscx, hscy, hwy, hie⟩
  | clr | tx1 | tx2 plane => exact h

theorem State.sameForTransmit.widthsHold {s t : State} (h : s.sameForTransmit t) (hs : s.widthsHold) : t.widthsHold := by
  obtain ⟨-, htile, hcfg, hparams, -, hie, -⟩ := h
  simpa only [State.widthsHold, htile, hcfg, hparams, hie] using hs

theorem complete_widthsHold {ok : Bool} {s : State} (h : s.widthsHold) : (complete ok s).widthsHold := h

theorem EngineMove.widthsHold {s t : State} (h : EngineMove s t) (hfb : s.fb.wf s.params) (hs : s.widthsHold) :
    t.widthsHold := by
  cases h with
  | assemble hp psel => exact complete_widthsHold (assembleRow_widthsHold hfb hs)
  | _ => simpa [State.widthsHold] using hs

theorem State.drawUnspecified_widthsHold (n : Nat) {s : State} (hie : s.ie < 2 ^ s.params.wIe) :
    (s.drawUnspecified n).widthsHold := by
  dsimp only [State.widthsHold, State.drawUnspecified]
  exact ⟨BitVec.isLt _, BitVec.isLt _, BitVec.isLt _, BitVec.isLt _, hie⟩

/-! ### STATUS, EINFO and PHASE (R36, R37, R241) -/

theorem statusAgrees_reset {s : State} (hst : s.status = Status.reset) (hp : s.phase = .idle) : s.statusAgrees := by
  simp [State.statusAgrees, hst, hp, Status.reset]

theorem statusAgrees_accepted {s : State} (hst : s.status = Status.accepted) (he : s.einfo = 0) (hp : s.phase ≠ .idle) :
    s.statusAgrees := by
  simp [State.statusAgrees, hst, he, hp, Status.accepted]

theorem statusAgrees_completed {s : State} (hst : s.status = Status.completed true) (he : s.einfo = 0)
    (hp : s.phase = .idle) : s.statusAgrees := by
  simp [State.statusAgrees, hst, he, hp, Status.completed]

theorem statusAgrees_timedOut {s : State} (hst : s.status = Status.raised .packetSendTimeout) (he : s.einfo.toNat ≤ 13)
    (hp : s.phase = .idle) : s.statusAgrees := by
  simp [State.statusAgrees, hst, he, hp, Status.raised, ErrorKind.code]

theorem statusAgrees_illegal {s : State} {e : DecodeRefusal} (hst : s.status = Status.raised .illegalCommand)
    (he : decode s.einfo = .error e) (hp : s.phase = .idle) : s.statusAgrees := by
  simp [State.statusAgrees, hst, he, hp, Status.raised, ErrorKind.code]

/-- While a command runs, STATUS is BUSY alone and EINFO is 0. -/
theorem State.statusAgrees.of_running {s : State} (h : s.statusAgrees) (hrun : s.phase ≠ .idle) :
    s.status = Status.accepted ∧ s.einfo = 0 := by
  obtain ⟨hbusy, haccepted, -⟩ := h
  exact haccepted (hbusy.2 hrun)

theorem raiseTimeout_statusAgrees {s : State} (hpkt : s.pkt.toNat ≤ 13) : (raiseTimeout s).statusAgrees := by
  refine statusAgrees_timedOut rfl ?_ rfl
  rw [raiseTimeout_einfo, BitVec.toNat_setWidth]
  omega

theorem EngineMove.statusAgrees {s t : State} (h : EngineMove s t) (hst : s.status = Status.accepted) (he : s.einfo = 0)
    (hpkt : s.phase = .pktSend ∨ s.phase = .pktBackoff → s.pkt.toNat ≤ 13) : t.statusAgrees := by
  cases h with
  | clear | assemble | paced | acked => exact statusAgrees_completed rfl (by simp [he]) rfl
  | exhausted hp => exact raiseTimeout_statusAgrees (hpkt (.inl hp))
  | exhaustedAfterSleep hp => exact raiseTimeout_statusAgrees (hpkt (.inr hp))
  | _ => exact statusAgrees_accepted (by simp [hst]) (by simp [he]) (by simp)

/-! ### PHASE, the latches and the counters (R25 to R27) -/

theorem sequenced_of_idle {s : State} (hp : s.phase = .idle) : s.sequenced := by
  simp [State.sequenced, hp]

/-- Each packet phase asks for a packet of the command's range, the phases of an attempt for ATT in 1..10 besides. -/
theorem sequenced_pktLoad {s : State} (hp : s.phase = .pktLoad) : s.sequenced ↔ s.onPacket := by
  simp only [State.sequenced, hp]

theorem sequenced_attempt {s : State} (hp : s.phase = .pktSend ∨ s.phase = .pktBackoff) :
    s.sequenced ↔ s.onPacket ∧ 1 ≤ s.att.toNat ∧ s.att.toNat ≤ 10 := by
  rcases hp with hp | hp <;> simp only [State.sequenced, hp]

/-- The byte phases of TX1 ask for IDX below their number of bytes. -/
theorem sequenced_bulk {s : State} (hp : s.phase = .bulkWait ∨ s.phase = .bulkEmit) :
    s.sequenced ↔ s.ops = OperandLatches.ofInstr .tx1 ∧ s.idx.toNat ≤ 111 := by
  rcases hp with hp | hp <;> simp only [State.sequenced, hp]

theorem sequenced_tail {s : State} (hp : s.phase = .tailWait ∨ s.phase = .tailEmit) :
    s.sequenced ↔ s.ops = OperandLatches.ofInstr .tx1 ∧ s.idx.toNat ≤ 5 := by
  rcases hp with hp | hp <;> simp only [State.sequenced, hp]

/-- The last phases of TX1 ask for its latches alone. -/
theorem sequenced_close {s : State} (hp : s.phase = .ack1 ∨ s.phase = .ack2 ∨ s.phase = .pace) :
    s.sequenced ↔ s.ops = OperandLatches.ofInstr .tx1 := by
  rcases hp with hp | hp | hp <;> simp only [State.sequenced, hp]

theorem sequenced_ackCr {s : State} (hp : s.phase = .ackCr) :
    s.sequenced ↔ ∃ plane, s.ops = OperandLatches.ofInstr (.tx2 plane) := by
  simp only [State.sequenced, hp]

theorem State.onPacket_congr {s t : State} (hops : t.ops = s.ops) (hpkt : t.pkt = s.pkt) (h : s.onPacket) : t.onPacket := by
  simpa only [State.onPacket, hops, hpkt] using h

theorem State.onPacket.pkt_le {s : State} (h : s.onPacket) : s.pkt.toNat ≤ 13 := by
  rcases h with ⟨-, hk⟩ | ⟨-, -, hk⟩ <;> omega

theorem State.onPacket.ops_of_tx1 {s : State} (h : s.onPacket) (hopc : s.ops.opc = 3) :
    s.ops = OperandLatches.ofInstr .tx1 := by
  rcases h with ⟨hops, -⟩ | ⟨plane, hops, -⟩
  · exact hops
  · rw [hops] at hopc
    exact absurd hopc (by decide : (4 : BitVec 4) ≠ 3)

theorem State.onPacket.ops_of_tx2 {s : State} (h : s.onPacket) (hopc : s.ops.opc = 4) :
    ∃ plane, s.ops = OperandLatches.ofInstr (.tx2 plane) := by
  rcases h with ⟨hops, -⟩ | ⟨plane, hops, -⟩
  · rw [hops] at hopc
    exact absurd hopc (by decide : (3 : BitVec 4) ≠ 4)
  · exact ⟨plane, hops⟩

/-- The packet after one that is not the last is in the command's range. -/
theorem State.onPacket.succ {s t : State} {last : Nat} (h : s.onPacket) (hlast : lastPacket s.ops.opc = some last)
    (hk : s.pkt.toNat < last) (hops : t.ops = s.ops) (hpkt : t.pkt = s.pkt + 1) : t.onPacket := by
  rcases lastPacket_cases hlast with ⟨hopc, rfl⟩ | ⟨hopc, rfl⟩
  · exact .inl ⟨hops.trans (h.ops_of_tx1 hopc), by rw [hpkt]; bv_omega⟩
  · obtain ⟨plane, htx2⟩ := h.ops_of_tx2 hopc
    exact .inr ⟨plane, hops.trans htx2, by rw [hpkt]; bv_omega⟩

/-- Every row leads to a combination of PHASE, latches and counters that the table covers. -/
theorem EngineMove.sequenced {s t : State} (h : EngineMove s t) (hs : s.sequenced) : t.sequenced := by
  cases h with
  | clear | assemble | paced | acked | exhausted | exhaustedAfterSleep => exact sequenced_of_idle rfl
  | loadData hp k hk =>
    rw [sequenced_pktLoad hp] at hs
    rw [sequenced_attempt (.inl rfl)]
    exact ⟨State.onPacket_congr (by simp) (by simp [hk]) hs, by simp, by simp⟩
  | loadLast hp plane hk =>
    rw [sequenced_pktLoad hp] at hs
    rw [sequenced_attempt (.inl rfl)]
    exact ⟨State.onPacket_congr (by simp) (by simp [hk]) hs, by simp, by simp⟩
  | sent hp last hlast hk =>
    rw [sequenced_attempt (.inl hp)] at hs
    exact (sequenced_pktLoad rfl).2 (hs.1.succ hlast hk rfl rfl)
  | sentLastOfTx1 hp hopc =>
    rw [sequenced_attempt (.inl hp)] at hs
    exact (sequenced_bulk (.inl rfl)).2 ⟨hs.1.ops_of_tx1 hopc, by simp⟩
  | sentLastOfTx2 hp hopc =>
    rw [sequenced_attempt (.inl hp)] at hs
    exact (sequenced_ackCr rfl).2 (hs.1.ops_of_tx2 hopc)
  | notSent hp =>
    rw [sequenced_attempt (.inl hp)] at hs
    exact (sequenced_attempt (.inr rfl)).2 hs
  | again hp ha =>
    obtain ⟨hpacket, -, -⟩ := (sequenced_attempt (.inr hp)).1 hs
    have hnext : (s.att + 1).toNat = s.att.toNat + 1 := by bv_omega
    exact (sequenced_attempt (.inl rfl)).2
      ⟨hpacket, show 1 ≤ (s.att + 1).toNat by omega, show (s.att + 1).toNat ≤ 10 by omega⟩
  | bulkReady hp => exact (sequenced_bulk (.inr rfl)).2 ((sequenced_bulk (.inl hp)).1 hs)
  | bulkByte hp b hi =>
    obtain ⟨hops, -⟩ := (sequenced_bulk (.inr hp)).1 hs
    exact (sequenced_bulk (.inl rfl)).2 ⟨hops, show (s.idx + 1).toNat ≤ 111 by bv_omega⟩
  | bulkLastByte hp b =>
    obtain ⟨hops, -⟩ := (sequenced_bulk (.inr hp)).1 hs
    exact (sequenced_tail (.inl rfl)).2 ⟨hops, by simp⟩
  | tailReady hp => exact (sequenced_tail (.inr rfl)).2 ((sequenced_tail (.inl hp)).1 hs)
  | tailByte hp hi =>
    obtain ⟨hops, -⟩ := (sequenced_tail (.inr hp)).1 hs
    exact (sequenced_tail (.inl rfl)).2 ⟨hops, show (s.idx + 1).toNat ≤ 5 by bv_omega⟩
  | tailLastByte hp =>
    obtain ⟨hops, -⟩ := (sequenced_tail (.inr hp)).1 hs
    exact (sequenced_close (.inl rfl)).2 hops
  | firstAck hp => exact (sequenced_close (.inr (.inl rfl))).2 ((sequenced_close (.inl hp)).1 hs)
  | secondAck hp => exact (sequenced_close (.inr (.inr rfl))).2 ((sequenced_close (.inr (.inl hp))).1 hs)

end Sys2Proof.Machine
end

section
/-! The coordinator's part of the invariant: every word it issues is legal, its counters stay in range, and from its snapshot of
IE to its last move IE is that snapshot with the vertical-blank bits masked (R210, R214, R224). -/

namespace Sys2Proof.Machine

/-! ### The words of a job (R216 to R219) -/

theorem blankRowWords_legal (p : PrinterType) : ∀ w ∈ blankRowWords p, ∃ i, decode w = .ok i := by
  have hclr : decode (encode .clr) = .ok .clr := rfl
  have htx1 : decode (encode .tx1) = .ok .tx1 := rfl
  have htx2 := decode_encode_tx2
  cases p <;> simp [blankRowWords, Pseudo.words, hclr, htx1, htx2]

theorem rowWords_legal {r : Nat} (hr : r ≤ 17) (p : PrinterType) : ∀ w ∈ rowWords r p, ∃ i, decode w = .ok i := by
  have hrow : (BitVec.ofNat 5 r).toNat ≤ 17 := by rw [BitVec.toNat_ofNat]; omega
  have hasm (psel : PlaneSel) := decode_encode_asm (BitVec.ofNat 5 r) psel hrow
  have htx1 : decode (encode .tx1) = .ok .tx1 := rfl
  have htx2 := decode_encode_tx2
  cases p <;> simp [rowWords, Pseudo.words, hasm, htx1, htx2]

/-! ### The rows of a job -/

/-- The coordinator is within a row of a job of `n` trailing rows, its counter in range. -/
def JobState.inRow (n : Nat) : JobState → Prop
  | .idle => False
  | .querying => False
  | .preamble => True
  | .body r => r ≤ 17
  | .trailer k => 1 ≤ k ∧ k ≤ n
  | .epilogue => False

/-- Within a row the invariant of the job is one and the same for all rows, the counter's range apart. -/
theorem jobAgrees_of_inRow {s : State} (hrow : s.host.job.inRow s.params.nTrailer) (hie : s.vblMasked)
    (hprinter : s.host.printer ≠ .fail) (htodo : ∀ w ∈ s.host.todo, ∃ i, decode w = .ok i) : s.jobAgrees := by
  unfold State.jobAgrees
  split <;> simp_all [JobState.inRow]

theorem jobAgrees_of_epilogue {s : State} (hjob : s.host.job = .epilogue) (hie : s.vblMasked) : s.jobAgrees := by
  simpa only [State.jobAgrees, hjob] using hie

theorem jobAgrees_of_idle {s : State} (hjob : s.host.job = .idle ∨ s.host.job = .querying) : s.jobAgrees := by
  rcases hjob with hjob | hjob <;> simp only [State.jobAgrees, hjob]

/-- The invariant of the job speaks of the coordinator, IE and the parameters only. -/
theorem State.jobAgrees_congr {s t : State} (hhost : t.host = s.host) (hie : t.ie = s.ie) (hparams : t.params = s.params)
    (h : s.jobAgrees) : t.jobAgrees := by
  simpa only [State.jobAgrees, State.vblMasked, hhost, hie, hparams] using h

/-- What the coordinator makes of a row whose commands have all succeeded: the next row in range with legal words, or the
epilogue; its snapshot and its printer are as they were. -/
theorem rowDone_cases {n : Nat} {h : Coordinator} (hn : 1 ≤ n) (hrow : h.job.inRow n) :
    (h.rowDone n).ieSaved = h.ieSaved ∧ (h.rowDone n).printer = h.printer
      ∧ ((h.rowDone n).job = .epilogue
        ∨ (h.rowDone n).job.inRow n ∧ ∀ w ∈ (h.rowDone n).todo, ∃ i, decode w = .ok i) := by
  unfold Coordinator.rowDone
  split
  case h_1 => exact ⟨rfl, rfl, .inr ⟨Nat.zero_le _, rowWords_legal (Nat.zero_le _) _⟩⟩
  case h_2 r hjob =>
    split
    · next hr => exact ⟨rfl, rfl, .inr ⟨hr, rowWords_legal hr _⟩⟩
    · exact ⟨rfl, rfl, .inr ⟨⟨le_refl 1, hn⟩, blankRowWords_legal _⟩⟩
  case h_3 k hjob =>
    split
    · next hk => exact ⟨rfl, rfl, .inr ⟨⟨Nat.le_add_left 1 k, hk⟩, blankRowWords_legal _⟩⟩
    · exact ⟨rfl, rfl, .inl rfl⟩
  case h_4 hjob | h_5 hjob | h_6 hjob => simp [hjob, JobState.inRow] at hrow

/-! ### The moves of the host -/

/-- A move within a row: wait, note a success, give up, present a word, or go on to the next row. -/
theorem rowMove_jobAgrees {s : State} (hn : 1 ≤ s.params.nTrailer) (hrow : s.host.job.inRow s.params.nTrailer)
    (hie : s.vblMasked) (hprinter : s.host.printer ≠ .fail) (htodo : ∀ w ∈ s.host.todo, ∃ i, decode w = .ok i) :
    (rowMove s).jobAgrees := by
  unfold rowMove
  split
  · split
    · split
      · exact jobAgrees_of_inRow hrow hie hprinter htodo
      · exact jobAgrees_of_epilogue rfl hie
    · exact jobAgrees_of_inRow hrow hie hprinter htodo
  · split
    · next w rest hwords =>
      rw [hwords, List.forall_mem_cons] at htodo
      exact jobAgrees_of_inRow hrow hie hprinter htodo.2
    · obtain ⟨hsaved, hprinter', hdone⟩ := rowDone_cases hn hrow
      have hie' : (s.setHost (s.host.rowDone s.params.nTrailer)).vblMasked := by
        simpa [State.vblMasked, hsaved] using hie
      rcases hdone with hjob | ⟨hrow', htodo'⟩
      · exact jobAgrees_of_epilogue hjob hie'
      · exact jobAgrees_of_inRow hrow' hie' (fun hfail => hprinter (hprinter'.symm.trans hfail)) htodo'

/-- Masking the vertical-blank bits keeps the width of IE (R214). -/
theorem maskVbl_lt {ie mask w : Nat} (h : ie < 2 ^ w) : maskVbl ie mask < 2 ^ w :=
  Nat.xor_lt_two_pow h (Nat.and_le_left.trans_lt h)

theorem queryPrinter_jobAgrees {s : State} (hie : s.ie < 2 ^ s.params.wIe) : (queryPrinter s).jobAgrees := by
  simp only [queryPrinter]
  split
  · exact jobAgrees_of_idle (.inl rfl)
  · exact jobAgrees_of_inRow trivial ⟨hie, rfl⟩ (by simp) (blankRowWords_legal .ok1Pass)
  · exact jobAgrees_of_inRow trivial ⟨hie, rfl⟩ (by simp) (blankRowWords_legal .ok2Pass)

theorem queryPrinter_ie_lt {s : State} (hie : s.ie < 2 ^ s.params.wIe) : (queryPrinter s).ie < 2 ^ s.params.wIe := by
  simp only [queryPrinter]
  split
  · exact hie
  · exact maskVbl_lt hie
  · exact maskVbl_lt hie

theorem rowMove_ie (s : State) : (rowMove s).ie = s.ie := by
  unfold rowMove
  split
  · split
    · split <;> rfl
    · rfl
  · split <;> rfl

theorem hostStep_jobAgrees {s : State} (hn : 1 ≤ s.params.nTrailer) (hie : s.ie < 2 ^ s.params.wIe) (h : s.jobAgrees) :
    (hostStep s).jobAgrees := by
  unfold hostStep
  split
  case h_1 hjob =>
    split
    · exact jobAgrees_of_idle (.inr rfl)
    · exact h
  case h_2 hjob => exact queryPrinter_jobAgrees hie
  case h_3 hjob =>
    simp only [State.jobAgrees, hjob] at h
    obtain ⟨hmask, hprinter, htodo⟩ := h
    exact rowMove_jobAgrees hn (by simp [hjob, JobState.inRow]) hmask hprinter htodo
  case h_4 r hjob =>
    simp only [State.jobAgrees, hjob] at h
    obtain ⟨hmask, hprinter, hr, htodo⟩ := h
    exact rowMove_jobAgrees hn (by simpa [hjob, JobState.inRow] using hr) hmask hprinter htodo
  case h_5 k hjob =>
    simp only [State.jobAgrees, hjob] at h
    obtain ⟨hmask, hprinter, hk, hk', htodo⟩ := h
    exact rowMove_jobAgrees hn (by simpa [hjob, JobState.inRow] using And.intro hk hk') hmask hprinter htodo
  case h_6 hjob => exact jobAgrees_of_idle (.inl rfl)

theorem hostStep_ie_lt {s : State} (hie : s.ie < 2 ^ s.params.wIe) (h : s.jobAgrees) :
    (hostStep s).ie < 2 ^ s.params.wIe := by
  unfold hostStep
  split
  case h_1 hjob => split <;> exact hie
  case h_2 hjob => exact queryPrinter_ie_lt hie
  case h_3 hjob | h_4 hjob | h_5 hjob => rwa [rowMove_ie]
  case h_6 hjob =>
    simp only [State.jobAgrees, hjob] at h
    exact h.1

end Sys2Proof.Machine
end

section
/-! The invariant (O15, O16): it holds at reset, and each of the five kinds of step keeps it. -/

namespace Sys2Proof.Machine

/-- The invariant of a state that has the surroundings of one with the invariant, from what it says of the engine's own
registers. -/
theorem State.Inv.of_sameSurroundings {s t : State} (h : s.Inv) (hsame : s.sameSurroundings t) (hwidths : t.widthsHold)
    (hstatus : t.statusAgrees) (hseq : t.sequenced) : t.Inv := by
  obtain ⟨hparams, hfb, hie, -, hhost, -⟩ := hsame
  exact ⟨hparams ▸ h.params, by rw [hfb, hparams]; exact h.framebuffer, hwidths, hstatus, hseq,
    State.jobAgrees_congr hhost hie hparams h.job⟩

/-- The command port is no part of the invariant. -/
theorem State.Inv.setQueue {s : State} (h : s.Inv) (q : List CmdWord) : (s.setQueue q).Inv :=
  ⟨h.params, h.framebuffer, h.widths, h.status, h.sequenced, h.job⟩

/-- Neither are the reset input and its counter. -/
theorem State.Inv.setReset {s : State} (h : s.Inv) (n : Nat) (line : Bool) :
    { s with resets := n, resetLine := line }.Inv :=
  ⟨h.params, h.framebuffer, h.widths, h.status, h.sequenced, h.job⟩

/-! ### Reset (R45, R270) -/

theorem drawUnspecified_inv {n : Nat} {s : State} (hparams : s.params.wf) (hfb : s.fb.wf s.params)
    (hie : s.ie < 2 ^ s.params.wIe) (hjob : s.jobAgrees) : (s.drawUnspecified n).Inv where
  params := hparams
  framebuffer := hfb
  widths := State.drawUnspecified_widthsHold n hie
  status := statusAgrees_reset (State.drawUnspecified_status n s) (State.drawUnspecified_phase n s)
  sequenced := sequenced_of_idle (State.drawUnspecified_phase n s)
  job := State.jobAgrees_congr (State.drawUnspecified_host n s) (State.drawUnspecified_ie n s)
    (State.drawUnspecified_params n s) hjob

/-- The parameters of the machine after reset meet R8, whatever its uninterpreted constants are. -/
theorem resetParams_wf : Config.resetParams.wf := by
  simp only [Params.wf, Config.resetParams]
  omega

theorem surroundings_fb_wf : State.surroundings.fb.wf State.surroundings.params := by
  simp [State.surroundings, FrameBuffer.wf, TileMap.wf, Memory.wf, cellsWf]

/-- Settles O15: the reset state is a draw over surroundings that meet the rest of the invariant. -/
theorem resetMeetsTheInvariant : Obligations.ResetMeetsTheInvariant :=
  drawUnspecified_inv resetParams_wf surroundings_fb_wf (Nat.two_pow_pos _) (jobAgrees_of_idle (.inl rfl))

theorem resetEvent_inv {s : State} (h : s.Inv) : (resetEvent s).Inv := by
  obtain ⟨-, -, -, -, hie⟩ := h.widths
  exact (drawUnspecified_inv h.params h.framebuffer hie h.job).setReset (s.resets + 1) false

/-! ### The engine -/

theorem EngineMove.inv {s t : State} (hmove : EngineMove s t) (h : s.Inv) (hrun : s.phase ≠ .idle) : t.Inv := by
  obtain ⟨hst, he⟩ := h.status.of_running hrun
  have hpkt (hp : s.phase = .pktSend ∨ s.phase = .pktBackoff) : s.pkt.toNat ≤ 13 :=
    ((sequenced_attempt hp).1 h.sequenced).1.pkt_le
  exact h.of_sameSurroundings hmove.sameSurroundings (hmove.widthsHold h.framebuffer h.widths)
    (hmove.statusAgrees hst he hpkt) (hmove.sequenced h.sequenced)

/-- The row IDLE of R27 leads into a phase whose latches and counters are those of its command. -/
theorem accepted_sequenced {i : Instr} {s : State} (hwf : i.wellFormed = true) :
    (((accept i s).setPkt (firstPkt i s.pkt)).setPhase (firstPhase i)).sequenced := by
  cases i with
  | clr => exact (rfl : (accept .clr s).ops = OperandLatches.ofInstr .clr)
  | asm row psel => exact ⟨row, psel, of_decide_eq_true hwf, rfl⟩
  | tx1 => exact (sequenced_pktLoad rfl).2 (.inl ⟨rfl, by simp [firstPkt]⟩)
  | tx2 plane => exact (sequenced_pktLoad rfl).2 (.inr ⟨plane, rfl, by simp [firstPkt]⟩)

theorem firstPhase_ne_idle (i : Instr) : firstPhase i ≠ .idle := by
  cases i <;> simp [firstPhase]

theorem raiseIllegal_inv {w : CmdWord} {e : DecodeRefusal} {s : State} (hdec : decode w = .error e) (h : s.Inv) :
    (raiseIllegal w s).Inv :=
  h.of_sameSurroundings (by simp [State.sameSurroundings]) h.widths (statusAgrees_illegal rfl hdec rfl)
    (sequenced_of_idle rfl)

theorem acceptWord_inv {w : CmdWord} {s : State} (h : s.Inv) : (acceptWord w s).Inv := by
  cases hdec : decode w with
  | error e =>
    simp only [acceptWord, hdec]
    exact raiseIllegal_inv hdec h
  | ok i =>
    rw [acceptWord_of_decode hdec]
    exact h.of_sameSurroundings (by simp [State.sameSurroundings]) (accept_widthsHold (i := i) h.framebuffer h.widths)
      (statusAgrees_accepted rfl rfl (firstPhase_ne_idle i)) (accepted_sequenced (decode_fields hdec).wellFormed)

/-! ### A whole command -/

theorem State.TransmitEnd.widthsHold {s t : State} (h : s.TransmitEnd t) (hs : s.widthsHold) : t.widthsHold := by
  cases h with
  | completed u hsame heinfo => exact complete_widthsHold (hsame.widthsHold hs)
  | timedOut u hsame hpkt => exact hsame.widthsHold hs

theorem State.TransmitEnd.statusAgrees {s t : State} (h : s.TransmitEnd t) (hs : s.einfo = 0) : t.statusAgrees := by
  cases h with
  | completed u hsame heinfo => exact statusAgrees_completed rfl (heinfo.trans hs) rfl
  | timedOut u hsame hpkt => exact raiseTimeout_statusAgrees hpkt

theorem exec_inv {i : Instr} {s t : State} (hexec : exec i s = .next t) (h : s.Inv) : t.Inv := by
  have haccept := accept_widthsHold (i := i) h.framebuffer h.widths
  obtain ⟨hphase, -⟩ := commandEndsWithDoneStatus i s t hexec
  refine h.of_sameSurroundings (exec_sameSurroundings hexec) ?_ ?_ (sequenced_of_idle hphase)
  · rcases exec_cases hexec with ⟨rfl, rfl⟩ | ⟨row, psel, rfl, rfl⟩ | ⟨-, hend⟩
    · exact haccept
    · exact complete_widthsHold (assembleRow_widthsHold h.framebuffer haccept)
    · exact hend.widthsHold haccept
  · rcases exec_cases hexec with ⟨rfl, rfl⟩ | ⟨row, psel, rfl, rfl⟩ | ⟨-, hend⟩
    · exact statusAgrees_completed rfl rfl rfl
    · exact statusAgrees_completed rfl (by simp) rfl
    · exact hend.statusAgrees rfl

theorem execWord_inv {w : CmdWord} {s t : State} (hexec : execWord w s = .next t) (h : s.Inv) : t.Inv := by
  cases hdec : decode w with
  | error e =>
    simp only [execWord, hdec] at hexec
    cases hexec
    exact raiseIllegal_inv hdec h
  | ok i => exact exec_inv ((execWord_of_decode hdec s).symm.trans hexec) h

/-! ### The host -/

theorem hostStep_inv {s : State} (h : s.Inv) (hidle : s.phase = .idle) : (hostStep s).Inv := by
  obtain ⟨hparams, htile, hcfg, hphase, hstatus, heinfo, hfb, -⟩ := State.onlyHost_congr (hostStep_onlyHost s)
  obtain ⟨-, -, -, -, -, hn⟩ := h.params
  obtain ⟨htid, hscx, hscy, hwy, hie⟩ := h.widths
  refine ⟨hparams ▸ h.params, ?_, ?_, ?_, sequenced_of_idle (hphase.trans hidle), hostStep_jobAgrees hn hie h.job⟩
  · rw [hfb, hparams]
    exact h.framebuffer
  · simp only [State.widthsHold, hparams, htile, hcfg]
    exact ⟨htid, hscx, hscy, hwy, hostStep_ie_lt hie h.job⟩
  · simpa only [State.statusAgrees, hphase, hstatus, heinfo] using h.status

/-- Settles O16: each of the five kinds of step keeps the invariant. -/
theorem everyStepKeepsTheInvariant : Obligations.EveryStepKeepsTheInvariant := by
  intro s t hinv h
  rcases step_cases s with ⟨-, hs⟩ | ⟨hreset, hrun, -⟩ | ⟨w, rest, -, -, -, -, hs⟩ | ⟨w, rest, -, -, -, -, hs⟩ |
    ⟨-, hidle, -, hs⟩
  · cases hs.symm.trans h
    exact resetEvent_inv hinv
  · exact (step_running_move hreset hrun h).inv hinv hrun
  · cases hs.symm.trans h
    exact acceptWord_inv (hinv.setQueue rest)
  · exact execWord_inv (hs.symm.trans h) (hinv.setQueue rest)
  · cases hs.symm.trans h
    exact hostStep_inv hinv hidle

end Sys2Proof.Machine
end

section
/-! Runs of a busy engine: steps of the machine, each from a state in which STATUS is 0x01 and the port holds `rest`. They are
the runs that O40 speaks of. -/

namespace Sys2Proof.Machine

/-- What the engine's state is from acceptance to the end of the command, PHASE apart: BUSY alone, the words behind the accepted
one at the port, no reset event. -/
def State.serving (rest : List CmdWord) (s : State) : Prop :=
  s.status = Status.accepted ∧ s.cmdQueue = rest ∧ s.resetLine = false

/-- The engine runs a command. -/
def State.working (rest : List CmdWord) (s : State) : Prop := s.phase ≠ .idle ∧ s.serving rest

/-- Steps of the machine from `s` to `t`, every state but `t` a working one. -/
inductive WorksTo (rest : List CmdWord) : State → State → Prop
  | refl (s : State) : WorksTo rest s s
  | step {s t u : State} (hw : s.working rest) (hs : step s = .next t) (htu : WorksTo rest t u) : WorksTo rest s u

theorem WorksTo.trans {rest : List CmdWord} {s t u : State} (hst : WorksTo rest s t) (htu : WorksTo rest t u) :
    WorksTo rest s u := by
  induction hst with
  | refl s => exact htu
  | step hw hs _ ih => exact .step hw hs (ih htu)

/-- One row of R27 and what follows it. -/
theorem WorksTo.row {rest : List CmdWord} {s t u : State} (hw : s.working rest) (hrow : engineRow s = some t)
    (htu : WorksTo rest t u) : WorksTo rest s u := by
  obtain ⟨hrun, -, -, hreset⟩ := id hw
  exact .step hw ((step_running hreset hrun).trans (engineStep_eq_next.2 hrow)) htu

theorem WorksTo.one {rest : List CmdWord} {s t : State} (hw : s.working rest) (hrow : engineRow s = some t) :
    WorksTo rest s t := .row hw hrow (.refl t)

/-- Such steps are a run of the machine, working in every state before the last. -/
theorem WorksTo.exists_run {rest : List CmdWord} {s t : State} (h : WorksTo rest s t) :
    ∃ n, core.run n s = .next t ∧ ∀ m < n, ∃ u, core.run m s = .next u ∧ u.working rest := by
  induction h with
  | refl s => exact ⟨0, rfl, fun m hm => absurd hm (Nat.not_lt_zero m)⟩
  | step hw hs _ ih =>
    obtain ⟨n, hn, hbetween⟩ := ih
    refine ⟨n + 1, (run_succ n hs).trans hn, fun m hm => ?_⟩
    cases m with
    | zero => exact ⟨_, rfl, hw⟩
    | succ m =>
      obtain ⟨u, hu, hworking⟩ := hbetween m (Nat.lt_of_succ_lt_succ hm)
      exact ⟨u, (run_succ m hs).trans hu, hworking⟩

/-! ### What keeps the engine serving -/

theorem State.serving.setPhase {rest : List CmdWord} {s : State} (h : s.serving rest) {p : Phase} (hp : p ≠ .idle) :
    (s.setPhase p).working rest := ⟨hp, h⟩

theorem State.serving_congr {rest : List CmdWord} {s t : State} (hst : t.status = s.status)
    (hsame : s.sameSurroundings t) (h : s.serving rest) : t.serving rest := by
  obtain ⟨-, -, -, hqueue, -, hreset, -⟩ := hsame
  simpa only [State.serving, hst, hqueue, hreset] using h

theorem State.onlyPackets.serving {rest : List CmdWord} {s t : State} (hst : s.onlyPackets t) (h : s.serving rest) :
    t.serving rest := by
  obtain ⟨-, -, -, hsame⟩ := hst.sameForTransmit
  exact State.serving_congr hst.status_eq hsame h

end Sys2Proof.Machine
end

section
/-! The sequencing table against the pseudocode (O40), piece by piece. In each lemma the machine's state is the pseudocode's with
PHASE, and the counter of the loop, set by the table. -/

namespace Sys2Proof.Machine

variable {rest : List CmdWord}

/-! ### PHASE is the table's alone: the pseudocode does not read it -/

theorem complete_setPhase (ok : Bool) (p : Phase) (s : State) : complete ok (s.setPhase p) = complete ok s := rfl

theorem assembleTiles_setPhase (r : Nat) (psel : PlaneSel) (p : Phase) (ts : List (Fin 20)) (s : State) :
    ts.foldl (assembleTile r psel) (s.setPhase p) = (ts.foldl (assembleTile r psel) s).setPhase p := by
  induction ts generalizing s with
  | nil => rfl
  | cons t ts ih => exact ih (assembleTile r psel s t)

theorem assembleRow_setPhase (r : Nat) (psel : PlaneSel) (p : Phase) (s : State) :
    assembleRow r psel (s.setPhase p) = (assembleRow r psel s).setPhase p := assembleTiles_setPhase r psel p _ s

/-! ### The retry wrapper (R163) -/

/-- The state that attempt `a` leaves, whatever its answer. -/
def State.attempted (a : Nat) (s : State) : State :=
  (linkSendCmdBuf s.params.cmdPrintSendBytes (s.setAtt (BitVec.ofNat 4 a))).2

theorem State.attempted_onlyPackets (a : Nat) (s : State) : s.onlyPackets (s.attempted a) := rfl

theorem State.attempted_att {a : Nat} (ha : a ≤ 10) (s : State) : (s.attempted a).att.toNat = a := by
  simp only [State.attempted, linkSendCmdBuf_snd_att, State.setAtt_att, BitVec.toNat_ofNat]
  omega

/-- One turn of the retry wrapper, by the link's answer and by whether the wrapper goes on. -/
theorem retryFrom_succ (left : Nat) (s : State) :
    retryFrom (left + 1) s =
      if s.link.nextSend.1 = true then (true, s.attempted (10 - left))
      else if left ≠ 0 ∨ s.params.retrySleepAfterLast = true then
        retryFrom left (sleepMs Config.tRetry (s.attempted (10 - left)))
      else (false, s.attempted (10 - left)) := rfl

/-- The row PKT_SEND of attempt `a`. -/
theorem engineRow_pktSend (a : Nat) (s : State) :
    engineRow ((s.setAtt (BitVec.ofNat 4 a)).setPhase .pktSend) =
      if s.link.nextSend.1 = true then afterPacket (s.attempted a) else afterFailedAttempt (s.attempted a) := rfl

theorem engineRow_pktBackoff (s : State) :
    engineRow (s.setPhase .pktBackoff) = afterBackoff (sleepMs Config.tRetry s) := rfl

/-- Where the table goes from what the retry wrapper answers: to the row after an answered packet, or to the raise. -/
def packetLeads (r : Bool × State) (t : State) : Prop :=
  if r.1 = true then afterPacket r.2 = some t else t = raiseTimeout r.2

theorem packetLeads_answered {u t : State} : packetLeads (true, u) t ↔ afterPacket u = some t := by simp [packetLeads]

theorem packetLeads_exhausted {u t : State} : packetLeads (false, u) t ↔ t = raiseTimeout u := by simp [packetLeads]

/-- The row PKT_BACKOFF after attempt `a`: the next attempt, or the raise after the tenth. -/
theorem afterBackoff_sleepMs {a : Nat} (ha : a ≤ 10) (s : State) :
    afterBackoff (sleepMs Config.tRetry (s.attempted a)) =
      if a < 10 then
        some (((sleepMs Config.tRetry (s.attempted a)).setAtt (BitVec.ofNat 4 (a + 1))).setPhase .pktSend)
      else some (raiseTimeout (sleepMs Config.tRetry (s.attempted a))) := by
  have hatt : (sleepMs Config.tRetry (s.attempted a)).att.toNat = a := s.attempted_att ha
  have hnext : (sleepMs Config.tRetry (s.attempted a)).att + 1 = BitVec.ofNat 4 (a + 1) :=
    (BitVec.ofNat_add a 1).symm
  simp only [afterBackoff, hatt, hnext]
  split
  · rfl
  · rw [if_pos (by omega)]

/-- The row PKT_SEND after an unanswered attempt `a`: back off if a sleep follows, or raise after the tenth. -/
theorem afterFailedAttempt_attempted {a : Nat} (ha : a ≤ 10) (s : State) :
    afterFailedAttempt (s.attempted a) =
      if a < 10 ∨ s.params.retrySleepAfterLast = true then some ((s.attempted a).setPhase .pktBackoff)
      else some (raiseTimeout (s.attempted a)) := by
  have hatt := s.attempted_att ha
  have hparams : (s.attempted a).params = s.params := rfl
  simp only [afterFailedAttempt, hatt, hparams]
  split
  · rfl
  · rw [if_pos (by omega)]

/-- One attempt, the attempts behind it granted: the rows lead where the retry wrapper's answer says. -/
theorem worksTo_attempt {left : Nat} {s t : State} (hleft : left < 10) (h : s.serving rest)
    (ht : packetLeads (retryFrom (left + 1) s) t)
    (hnext : left ≠ 0 → ∀ u : State, u.serving rest → packetLeads (retryFrom left u) t →
      WorksTo rest ((u.setAtt (BitVec.ofNat 4 (10 - left + 1))).setPhase .pktSend) t) :
    WorksTo rest ((s.setAtt (BitVec.ofNat 4 (10 - left))).setPhase .pktSend) t := by
  have hw : ((s.setAtt (BitVec.ofNat 4 (10 - left))).setPhase .pktSend).working rest := ⟨by simp, h⟩
  have hu : (s.attempted (10 - left)).serving rest := (s.attempted_onlyPackets _).serving h
  have hsend := engineRow_pktSend (10 - left) s
  rw [afterFailedAttempt_attempted (by omega)] at hsend
  have hback := (engineRow_pktBackoff (s.attempted (10 - left))).trans (afterBackoff_sleepMs (by omega) s)
  rw [retryFrom_succ] at ht
  by_cases hyes : s.link.nextSend.1 = true
  · rw [if_pos hyes] at ht hsend
    exact .one hw (hsend.trans ht)
  · rw [if_neg hyes] at ht hsend
    by_cases hagain : left ≠ 0 ∨ s.params.retrySleepAfterLast = true
    · rw [if_pos hagain] at ht
      rw [if_pos (hagain.imp_left fun _ => by omega)] at hsend
      refine .row hw hsend ?_
      by_cases hzero : left = 0
      · subst hzero
        cases ht
        exact .one (hu.setPhase (by simp)) hback
      · rw [if_pos (by omega)] at hback
        exact .row (hu.setPhase (by simp)) hback (hnext hzero _ hu ht)
    · rw [if_neg hagain] at ht
      rw [if_neg (fun hor => hagain (hor.imp_left fun _ => by omega))] at hsend
      cases ht
      exact .one hw hsend

/-- The rows of the attempts that the retry wrapper still has lead where its answer says. -/
theorem worksTo_retryFrom {left : Nat} {s t : State} (hleft : left < 10) (h : s.serving rest)
    (ht : packetLeads (retryFrom (left + 1) s) t) :
    WorksTo rest ((s.setAtt (BitVec.ofNat 4 (10 - left))).setPhase .pktSend) t := by
  induction left generalizing s with
  | zero => exact worksTo_attempt hleft h ht fun hne => absurd rfl hne
  | succ left ih =>
    refine worksTo_attempt hleft h ht fun _ u hu hleads => ?_
    rw [show 10 - (left + 1) + 1 = 10 - left by omega]
    exact ih (by omega) hu hleads

/-! ### The packets (R162, R192, R193) -/

/-- The row PKT_LOAD of packet `k`, which loads `l`, and the rows of its attempts lead where the retry wrapper's answer says. -/
theorem worksTo_packet {k : BitVec 4} {s l t : State} (hs : s.serving rest)
    (hload : loadCurrent ((s.setPkt k).setPhase .pktLoad) = some (l.setPhase .pktLoad)) (hl : l.serving rest)
    (ht : packetLeads (sendPacketRetry l) t) : WorksTo rest ((s.setPkt k).setPhase .pktLoad) t := by
  have hw : ((s.setPkt k).setPhase .pktLoad).working rest := ⟨by simp, hs⟩
  have hrow : engineRow ((s.setPkt k).setPhase .pktLoad) = some ((l.setAtt 1).setPhase .pktSend) := by
    simp only [engineRow, State.setPhase_phase, hload]
    rfl
  exact .row hw hrow (worksTo_retryFrom (left := 9) (by omega) hl ht)

theorem lastPacket_le {opc : BitVec 4} {last : Nat} (h : lastPacket opc = some last) : last ≤ 13 := by
  rcases lastPacket_cases h with ⟨-, rfl⟩ | ⟨-, rfl⟩ <;> omega

/-- A data packet of a command is loaded by its number (R162, R192). -/
theorem loadCurrent_data {s : State} {last k : Nat} (hlast : lastPacket s.ops.opc = some last) (hk : k ≤ last)
    (hk' : k < 13) :
    loadCurrent ((s.setPkt (BitVec.ofNat 4 k)).setPhase .pktLoad)
      = some ((loadPacket (Fin.ofNat 13 k) s).setPhase .pktLoad) := by
  have hnat : (BitVec.ofNat 4 k).toNat = k := by rw [BitVec.toNat_ofNat]; omega
  rcases lastPacket_cases hlast with ⟨hopc, rfl⟩ | ⟨hopc, rfl⟩
  · simp [loadCurrent, hopc, hnat, hk]
    rfl
  · simp [loadCurrent, hopc, hnat, Nat.le_of_lt_succ hk']
    rfl

theorem worksTo_dataPacket {s t : State} {last k : Nat} (hlast : lastPacket s.ops.opc = some last) (hk : k ≤ last)
    (hk' : k < 13) (h : s.serving rest) (ht : packetLeads (sendPacketRetry (loadPacket (Fin.ofNat 13 k) s)) t) :
    WorksTo rest ((s.setPkt (BitVec.ofNat 4 k)).setPhase .pktLoad) t :=
  worksTo_packet h (loadCurrent_data hlast hk hk') ((loadPacket_onlyPackets _ s).serving h) ht

/-- What the retry wrapper leaves of a data packet, answered or not. -/
theorem dataPacket_frame {s u : State} {ok : Bool} {k : Nat} (hk : k < 13)
    (hr : sendPacketRetry (loadPacket (Fin.ofNat 13 k) s) = (ok, u)) : s.onlyPackets u ∧ u.pkt = BitVec.ofNat 4 k := by
  obtain ⟨honly, hpkt⟩ := sendPacketRetry_frame (loadPacket (Fin.ofNat 13 k) s)
  rw [hr] at honly hpkt
  rw [loadPacket_pkt, Fin.val_ofNat, Nat.mod_eq_of_lt hk] at hpkt
  exact ⟨(loadPacket_onlyPackets _ s).trans honly, hpkt⟩

/-- After an answered packet that is not the last, the row PKT_LOAD of the next one (R27). -/
theorem afterPacket_data {s : State} {last k : Nat} (hlast : lastPacket s.ops.opc = some last)
    (hpkt : s.pkt = BitVec.ofNat 4 k) (hk : k < last) :
    afterPacket s = some ((s.setPkt (BitVec.ofNat 4 (k + 1))).setPhase .pktLoad) := by
  have hle := lastPacket_le hlast
  have hnat : (BitVec.ofNat 4 k).toNat = k := by rw [BitVec.toNat_ofNat]; omega
  have hnext : BitVec.ofNat 4 k + 1 = BitVec.ofNat 4 (k + 1) := (BitVec.ofNat_add k 1).symm
  simp only [afterPacket, hlast, hpkt, hnat, if_pos hk, hnext]

/-- Consecutive data packets, none of them the command's last: the rows lead to the row PKT_LOAD behind them, or to the raise
with which the packet loop ends. -/
theorem worksTo_packets {last : Nat} (n first : Nat) (tail : List (Fin 13)) {s : State}
    (hlast : lastPacket s.ops.opc = some last) (hn : first + n ≤ last) (h : s.serving rest) :
    (∃ t, sendPackets (packetsFrom first n ++ tail) s = sendPackets tail t ∧ s.onlyPackets t
        ∧ WorksTo rest ((s.setPkt (BitVec.ofNat 4 first)).setPhase .pktLoad)
            ((t.setPkt (BitVec.ofNat 4 (first + n))).setPhase .pktLoad))
      ∨ ∃ t, sendPackets (packetsFrom first n ++ tail) s = (false, t)
        ∧ WorksTo rest ((s.setPkt (BitVec.ofNat 4 first)).setPhase .pktLoad) t := by
  induction n generalizing first s with
  | zero => exact .inl ⟨s, rfl, rfl, .refl _⟩
  | succ n ih =>
    have hle := lastPacket_le hlast
    rw [packetsFrom_succ, List.cons_append, sendPackets]
    rcases hr : sendPacketRetry (loadPacket (Fin.ofNat 13 first) s) with ⟨ok, u⟩
    obtain ⟨honly, hpkt⟩ := dataPacket_frame (by omega) hr
    cases ok with
    | true =>
      have hlast' : lastPacket u.ops.opc = some last := by rw [honly.ops_eq, hlast]
      have hto := worksTo_dataPacket hlast (by omega) (by omega) h
        (hr ▸ packetLeads_answered.2 (afterPacket_data hlast' hpkt (by omega)))
      rw [show first + (n + 1) = first + 1 + n by omega]
      rcases ih (first + 1) hlast' (by omega) (honly.serving h) with ⟨t, ht, honly', hto'⟩ | ⟨t, ht, hto'⟩
      · exact .inl ⟨t, ht, honly.trans honly', hto.trans hto'⟩
      · exact .inr ⟨t, ht, hto.trans hto'⟩
    | false =>
      exact .inr ⟨raiseTimeout u, rfl,
        worksTo_dataPacket hlast (by omega) (by omega) h (hr ▸ packetLeads_exhausted.2 rfl)⟩

/-! ### TX1 (R161) -/

/-- A loop over `n` iterations, of which iteration `m` is entered at `entry m`. -/
theorem worksTo_loop {n : Nat} (f : State → Fin n → State) (entry : Nat → State → State)
    (hturn : ∀ (m : Fin n) (s : State), s.serving rest →
      WorksTo rest (entry m.val s) (entry (m.val + 1) (f s m)) ∧ (f s m).serving rest)
    {s : State} (h : s.serving rest) :
    WorksTo rest (entry 0 s) (entry n ((List.finRange n).foldl f s)) ∧ ((List.finRange n).foldl f s).serving rest := by
  induction n generalizing s entry with
  | zero => exact ⟨.refl _, h⟩
  | succ n ih =>
    obtain ⟨hto, hserving⟩ := hturn 0 s h
    rw [List.finRange_succ, List.foldl_cons, List.foldl_map]
    obtain ⟨hto', hserving'⟩ := ih (fun s m => f s m.succ) (fun m => entry (m + 1)) (fun m => hturn m.succ) hserving
    exact ⟨hto.trans hto', hserving'⟩

/-- Where iteration `m` of the bulk phase is entered, and at 112 what follows the phase (R27, row BULK_EMIT). -/
def bulkEntry (m : Nat) (s : State) : State :=
  if m < 112 then (s.setIdx (BitVec.ofNat 7 m)).setPhase .bulkWait else (s.setIdx 0).setPhase .tailWait

/-- Where iteration `m` of the trailing phase is entered, and at 6 what follows the phase (R27, row TAIL_EMIT). -/
def tailEntry (m : Nat) (s : State) : State :=
  if m < 6 then (s.setIdx (BitVec.ofNat 7 m)).setPhase .tailWait else s.setPhase .ack1

/-- The row BULK_EMIT of iteration `m`. -/
theorem bulkEmit_eq {s : State} (m : Fin 112) (hidx : s.idx = BitVec.ofNat 7 m.val) :
    bulkEmit (s.setPhase .bulkEmit) = some (bulkEntry (m.val + 1) (linkSendByte s.rb[48 + m.val] s)) := by
  have hnat : s.idx.toNat = m.val := by rw [hidx, BitVec.toNat_ofNat]; omega
  have hnext : s.idx + 1 = BitVec.ofNat 7 (m.val + 1) := by rw [hidx]; exact (BitVec.ofNat_add m.val 1).symm
  simp only [bulkEmit, State.setPhase_idx, State.setPhase_rb, hnat, hnext, bulkEntry, m.isLt, dite_true]
  by_cases hlast : m.val < 111
  · rw [if_pos hlast, if_pos (Nat.succ_lt_succ hlast)]
    rfl
  · rw [if_neg hlast, if_neg (fun hlt => hlast (Nat.lt_of_succ_lt_succ hlt))]
    rfl

/-- The row TAIL_EMIT of iteration `m`. -/
theorem tailEmit_eq {s : State} (m : Fin 6) (hidx : s.idx = BitVec.ofNat 7 m.val) :
    tailEmit (s.setPhase .tailEmit) = some (tailEntry (m.val + 1) (linkSendByte Config.tailByte s)) := by
  have hnat : s.idx.toNat = m.val := by rw [hidx, BitVec.toNat_ofNat]; omega
  have hnext : s.idx + 1 = BitVec.ofNat 7 (m.val + 1) := by rw [hidx]; exact (BitVec.ofNat_add m.val 1).symm
  simp only [tailEmit, State.setPhase_idx, hnat, hnext, tailEntry]
  by_cases hlast : m.val < 5
  · rw [if_pos hlast, if_pos (Nat.succ_lt_succ hlast)]
    rfl
  · rw [if_neg hlast, if_neg (fun hlt => hlast (Nat.lt_of_succ_lt_succ hlt)), if_pos (by omega)]
    rfl

theorem linkReadWait_serving {ms : Nat} {s : State} (h : s.serving rest) : (linkReadWait ms s).serving rest :=
  State.serving_congr (linkReadWait_status ms s) (linkReadWait_sameSurroundings ms s) h

/-- One iteration of the bulk phase: the rows BULK_WAIT and BULK_EMIT. -/
theorem worksTo_bulkByte (m : Fin 112) (s : State) (h : s.serving rest) :
    WorksTo rest (bulkEntry m.val s) (bulkEntry (m.val + 1) (bulkByte s m)) ∧ (bulkByte s m).serving rest := by
  have hread : (linkReadWait Config.tReady (s.setIdx (BitVec.ofNat 7 m.val))).serving rest := linkReadWait_serving h
  have hentry : bulkEntry m.val s = (s.setIdx (BitVec.ofNat 7 m.val)).setPhase .bulkWait := if_pos m.isLt
  rw [hentry]
  exact ⟨.row ⟨by simp, h⟩ rfl (.one (hread.setPhase (by simp)) (bulkEmit_eq m (by simp))), hread⟩

/-- One iteration of the trailing phase: the rows TAIL_WAIT and TAIL_EMIT. -/
theorem worksTo_tailByte (m : Fin 6) (s : State) (h : s.serving rest) :
    WorksTo rest (tailEntry m.val s) (tailEntry (m.val + 1) (tailByte s m)) ∧ (tailByte s m).serving rest := by
  have hread : (linkReadWait Config.tReady (s.setIdx (BitVec.ofNat 7 m.val))).serving rest := linkReadWait_serving h
  have hentry : tailEntry m.val s = (s.setIdx (BitVec.ofNat 7 m.val)).setPhase .tailWait := if_pos m.isLt
  rw [hentry]
  exact ⟨.row ⟨by simp, h⟩ rfl (.one (hread.setPhase (by simp)) (tailEmit_eq m (by simp))), hread⟩

/-- The bulk phase, from the row BULK_WAIT to the row TAIL_WAIT (R164). -/
theorem worksTo_bulkPhase {s : State} (h : s.serving rest) :
    WorksTo rest ((s.setIdx 0).setPhase .bulkWait) (((bulkPhase s).setIdx 0).setPhase .tailWait)
      ∧ (bulkPhase s).serving rest := by
  have hloop := worksTo_loop bulkByte bulkEntry worksTo_bulkByte h
  rw [← bulkPhase] at hloop
  simpa [bulkEntry] using hloop

/-- The trailing phase, from the row TAIL_WAIT to the row ACK1 (R165). -/
theorem worksTo_tailPhase {s : State} (h : s.serving rest) :
    WorksTo rest ((s.setIdx 0).setPhase .tailWait) ((tailPhase s).setPhase .ack1) ∧ (tailPhase s).serving rest := by
  have hloop := worksTo_loop tailByte tailEntry worksTo_tailByte h
  rw [← tailPhase] at hloop
  simpa [tailEntry] using hloop

theorem engineRow_pace (s : State) : engineRow (s.setPhase .pace) = some (complete true (sleepMs Config.tRow s)) := rfl

/-- The terminator phase and the pacing of TX1: the rows ACK1, ACK2 and PACE. -/
theorem worksTo_closeRow {s : State} (h : s.serving rest) :
    WorksTo rest (s.setPhase .ack1) (complete true (closeRow s)) := by
  have hread : (linkReadWait Config.tAck s).serving rest := linkReadWait_serving h
  have hread' : (linkReadWait Config.tAck (linkReadWait Config.tAck s)).serving rest := linkReadWait_serving hread
  have hpace := WorksTo.one (hread'.setPhase (by simp)) (engineRow_pace _)
  exact .row (h.setPhase (by simp)) rfl (.row (hread.setPhase (by simp)) rfl hpace)

/-- The phases of TX1 behind its packets, from the row BULK_WAIT on. -/
theorem worksTo_bytePhases {s : State} (h : s.serving rest) :
    WorksTo rest ((s.setIdx 0).setPhase .bulkWait) (complete true (closeRow (tailPhase (bulkPhase s)))) := by
  obtain ⟨hbulk, hserving⟩ := worksTo_bulkPhase h
  obtain ⟨htail, hserving'⟩ := worksTo_tailPhase hserving
  exact hbulk.trans (htail.trans (worksTo_closeRow hserving'))

/-- After the last packet of TX1, the row BULK_WAIT (R27). -/
theorem afterPacket_last_tx1 {s : State} (hops : s.ops = OperandLatches.ofInstr .tx1) (hpkt : s.pkt = 3) :
    afterPacket s = some ((s.setIdx 0).setPhase .bulkWait) := by
  simp [afterPacket, hops, hpkt, OperandLatches.ofInstr, Instr.opcode, lastPacket]

/-- TX1 from its acceptance on. -/
theorem worksTo_runTx1 {s : State} (hops : s.ops = OperandLatches.ofInstr .tx1) (h : s.serving rest) :
    WorksTo rest ((s.setPkt 0).setPhase .pktLoad) (runTx1 s) := by
  have hlast {u : State} (hu : u.ops = s.ops) : lastPacket u.ops.opc = some 3 := by rw [hu, hops]; rfl
  have hlist : tx1Packets = packetsFrom 0 3 ++ [Fin.ofNat 13 3] := rfl
  rw [runTx1, hlist]
  rcases worksTo_packets 3 0 [Fin.ofNat 13 3] (hlast rfl) (by omega) h with ⟨t, hsend, honly, hto⟩ | ⟨t, hsend, hto⟩
  · rcases hr : sendPacketRetry (loadPacket (Fin.ofNat 13 3) t) with ⟨ok, u⟩
    obtain ⟨honly', hpkt⟩ := dataPacket_frame (by omega) hr
    have hu := honly.trans honly'
    have hpacket {v : State} (hv : packetLeads (ok, u) v) :=
      worksTo_dataPacket (k := 3) (hlast honly.ops_eq) (by omega) (by omega) (honly.serving h) (hr ▸ hv)
    cases ok with
    | true =>
      simp only [hsend, sendPackets, hr, if_true]
      refine hto.trans ((hpacket ?_).trans (worksTo_bytePhases (hu.serving h)))
      exact packetLeads_answered.2 (afterPacket_last_tx1 (hu.ops_eq.trans hops) hpkt)
    | false =>
      simp only [hsend, sendPackets, hr]
      exact hto.trans (hpacket (packetLeads_exhausted.2 rfl))
  · simp only [hsend]
    exact hto

/-! ### TX2 (R191) -/

/-- The terminator packet is loaded for the plane of the command (R193). -/
theorem loadCurrent_terminator {s : State} {plane : Plane} (hops : s.ops = OperandLatches.ofInstr (.tx2 plane)) :
    loadCurrent ((s.setPkt 13).setPhase .pktLoad) = some ((loadTerminator plane s).setPhase .pktLoad) := by
  simp [loadCurrent, hops, OperandLatches.ofInstr, Instr.opcode, Instr.pselBits, Plane.ofBits_code]
  rfl

/-- After the terminator packet of TX2, the row ACK_CR (R27). -/
theorem afterPacket_last_tx2 {s : State} {plane : Plane} (hops : s.ops = OperandLatches.ofInstr (.tx2 plane))
    (hpkt : s.pkt = 13) : afterPacket s = some (s.setPhase .ackCr) := by
  simp [afterPacket, hops, hpkt, OperandLatches.ofInstr, Instr.opcode, lastPacket]

/-- TX2 from its acceptance on. -/
theorem worksTo_runTx2 {plane : Plane} {s : State} (hops : s.ops = OperandLatches.ofInstr (.tx2 plane))
    (h : s.serving rest) : WorksTo rest ((s.setPkt 0).setPhase .pktLoad) (runTx2 plane s) := by
  have hlast : lastPacket s.ops.opc = some 13 := by rw [hops]; rfl
  have hlist : List.finRange 13 = packetsFrom 0 13 ++ [] := by decide
  rw [runTx2, hlist]
  rcases worksTo_packets 13 0 [] hlast (by omega) h with ⟨t, hsend, honly, hto⟩ | ⟨t, hsend, hto⟩
  · obtain ⟨honly', hpkt⟩ := terminator_frame plane t
    rcases hr : sendPacketRetry (loadTerminator plane t) with ⟨ok, u⟩
    rw [hr] at honly' hpkt
    have hu := honly.trans honly'
    have hpacket {v : State} (hv : packetLeads (ok, u) v) :=
      worksTo_packet (honly.serving h) (loadCurrent_terminator (honly.ops_eq.trans hops))
        ((loadTerminator_onlyPackets plane t).serving (honly.serving h)) (hr ▸ hv)
    cases ok with
    | true =>
      simp only [hsend, sendPackets, hr, if_true]
      refine hto.trans ((hpacket ?_).trans (.one ((hu.serving h).setPhase (p := .ackCr) (by simp)) rfl))
      exact packetLeads_answered.2 (afterPacket_last_tx2 (hu.ops_eq.trans hops) hpkt)
    | false =>
      simp only [hsend, sendPackets, hr]
      exact hto.trans (hpacket (packetLeads_exhausted.2 rfl))
  · simp only [hsend]
    exact hto

/-! ### The commands -/

/-- The row ASM_RUN, from the latches. -/
theorem engineRow_asmRun {s : State} {psel : PlaneSel} (hsel : PlaneSel.ofBits s.ops.pselr = some psel) :
    engineRow (s.setPhase .asmRun) = some (complete true (assembleRow s.ops.rowr.toNat psel s)) := by
  simp [engineRow, asmRun, hsel, assembleRow_setPhase, complete_setPhase]

/-- From the row after its acceptance on, a command's rows lead to the state its pseudocode answers. -/
theorem worksTo_exec (i : Instr) {s : State} (hreset : s.resetLine = false) :
    ∃ t, exec i s = .next t
      ∧ WorksTo s.cmdQueue (((accept i s).setPkt (firstPkt i s.pkt)).setPhase (firstPhase i)) t := by
  have h : (accept i s).serving s.cmdQueue := ⟨rfl, rfl, hreset⟩
  cases i with
  | clr => exact ⟨_, rfl, .one (h.setPhase (p := .clrRun) (by simp)) rfl⟩
  | asm row psel =>
    have hrow := engineRow_asmRun (s := accept (.asm row psel) s) (PlaneSel.ofBits_code psel)
    exact ⟨_, rfl, .one (h.setPhase (p := .asmRun) (by simp)) hrow⟩
  | tx1 => exact ⟨_, rfl, worksTo_runTx1 rfl h⟩
  | tx2 plane => exact ⟨_, rfl, worksTo_runTx2 rfl h⟩

/-- Settles O40: the first step accepts the word, and from there the command's rows lead to what its pseudocode answers. -/
theorem sequencingTableRunsThePseudocode : Obligations.SequencingTableRunsThePseudocode := by
  intro s w rest i hreset hgrain hphase hqueue hdec
  have haccept := step_accept hreset hgrain hphase hqueue
  rw [acceptWord_of_decode hdec] at haccept
  obtain ⟨t, hexec, hworks⟩ := worksTo_exec i (s := s.setQueue rest) hreset
  obtain ⟨n, hrun, hbetween⟩ := hworks.exists_run
  refine ⟨n + 1, t, hexec, (run_succ n haccept).trans hrun, fun m hpos hm => ?_⟩
  obtain ⟨m, rfl⟩ := Nat.exists_eq_succ_of_ne_zero (Nat.pos_iff_ne_zero.1 hpos)
  obtain ⟨u, hu, hworking, hstatus, hport, -⟩ := hbetween m (Nat.lt_of_succ_lt_succ hm)
  exact ⟨u, (run_succ m haccept).trans hu, hworking, by rw [hstatus, Status.accepted_word], hport⟩

end Sys2Proof.Machine
end

section
/-! The framebuffer's cells (O41): what each space reads after a write into it, at every cell at once. A write into another space
is another field of the framebuffer. -/

namespace Sys2Proof.Machine

/-- What a canonical list reads after a write, at every key. -/
theorem cellRead_cellWrite {α : Type} [DecidableEq α] {d : α} {m : List (Nat × α)} (hm : cellsWf d m) (a b : Nat) (v : α) :
    cellRead d (cellWrite d m a v) b = if b = a then v else cellRead d m b := by
  split
  · next h => rw [h, cellRead_cellWrite_eq hm]
  · next h => exact cellRead_cellWrite_ne m v h

theorem FrameBuffer.readBkg_writeBkg {fb : FrameBuffer} (h : fb.bkg.wf) (c m c' m' : Fin 32) (id : Nat) :
    (fb.writeBkg c m id).readBkg c' m' = if c' = c ∧ m' = m then id else fb.readBkg c' m' := by
  simp only [← mapKey_inj]
  exact cellRead_cellWrite h _ _ id

theorem FrameBuffer.readWin_writeWin {fb : FrameBuffer} (h : fb.win.wf) (c m c' m' : Fin 32) (id : Nat) :
    (fb.writeWin c m id).readWin c' m' = if c' = c ∧ m' = m then id else fb.readWin c' m' := by
  simp only [← mapKey_inj]
  exact cellRead_cellWrite h _ _ id

theorem FrameBuffer.patternByte_writePattern {fb : FrameBuffer} (h : fb.pattern.wf) (id id' : Nat) (k k' : Fin 16) (b : Byte) :
    (fb.writePattern id k b).pattern.patternByte id' k' =
      if id' = id ∧ k' = k then b else fb.pattern.patternByte id' k' := by
  simp only [← patternKey_inj]
  exact cellRead_cellWrite h _ _ b

/-- Settles O41: within a space distinct cells have distinct keys; the other two spaces are fields the write leaves alone. -/
theorem framebufferCellsAreSeparate : Obligations.FramebufferCellsAreSeparate := by
  intro fb hbkg hwin hpattern
  refine ⟨fun c m c' m' id => ?_, fun c m id id' k' => ⟨rfl, rfl⟩, fun id id' k k' b => ?_,
    fun id k b c' m' => ⟨rfl, rfl⟩⟩
  · exact ⟨fb.readBkg_writeBkg hbkg c m c' m' id, fb.readWin_writeWin hwin c m c' m' id, rfl, rfl⟩
  · exact fb.patternByte_writePattern hpattern id id' k k' b

end Sys2Proof.Machine
end

section
/-! What CLR and ASM make of an earlier RB (O30): nothing. A tile reads no byte of RB, so runs of tiles from two contents of RB
differ in RB alone, and a whole row writes every byte of it. -/

namespace Sys2Proof.Machine

theorem accept_setRb (i : Instr) (b : Vector Byte 160) (s : State) : accept i (s.setRb b) = (accept i s).setRb b := by
  cases i <;> rfl

theorem clearRow_setRb (b : Vector Byte 160) (s : State) : clearRow (s.setRb b) = clearRow s := rfl

/-- A run of tiles from another RB ends in the same state but for RB. -/
theorem assembleTiles_setRb (r : Nat) (psel : PlaneSel) (ts : List (Fin 20)) (b : Vector Byte 160) (s : State) :
    ∃ b', ts.foldl (assembleTile r psel) (s.setRb b) = (ts.foldl (assembleTile r psel) s).setRb b' := by
  induction ts generalizing s b with
  | nil => exact ⟨b, rfl⟩
  | cons t ts ih =>
    exact ih (storeSlot b t (xform (s.fb.fetchPattern (sourceTile s.fb s.cfg r t.val)) psel)) (assembleTile r psel s t)

/-- A whole row ends in the same state whatever RB held (R77, R142). -/
theorem assembleRow_setRb (r : Nat) (psel : PlaneSel) (b : Vector Byte 160) (s : State) :
    assembleRow r psel (s.setRb b) = assembleRow r psel s := by
  obtain ⟨b', h⟩ : ∃ b', assembleRow r psel (s.setRb b) = (assembleRow r psel s).setRb b' :=
    assembleTiles_setRb r psel (List.finRange 20) b s
  have hrb : b' = (assembleRow r psel s).rb := by
    ext1 n hn
    have hbyte : (assembleRow r psel (s.setRb b)).rb[n] = b'[n] := by simp only [h, State.setRb_rb]
    rw [← hbyte, assembleRow_rb, assembleRow_rb]
    rfl
  rw [h, hrb]
  rfl

/-- Settles O30: CLR's loop and ASM's both write every byte of RB and read none. -/
theorem rowCommandsLeaveNoResidue : Obligations.RowCommandsLeaveNoResidue := by
  intro s b
  constructor
  · show execClr (s.setRb b) = execClr s
    rw [execClr, accept_setRb, clearRow_setRb, execClr]
  · intro row psel
    show execAsm row psel (s.setRb b) = execAsm row psel s
    rw [execAsm, accept_setRb, assembleRow_setRb, execAsm]

end Sys2Proof.Machine
end

section
/-! The output bits of the transformer (R124 to R126), and with them the dots of an assembled row (O26). Both operations, and the
rotator, are loops that only ever set dots, so an output bit is set iff the one pass that may set it does. -/

namespace Sys2Proof.Machine

/-! ### Loops that set dots -/

/-- A loop whose every pass can only set an observed bit: at the end it is set iff it was, or some pass sets it. -/
theorem foldl_observed_or {β γ : Type} (bit : β → Bool) {f : β → γ → β} {sets : γ → Bool}
    (hf : ∀ b x, bit (f b x) = (bit b || sets x)) (l : List γ) (b : β) : bit (l.foldl f b) = (bit b || l.any sets) := by
  induction l generalizing b with
  | nil => simp
  | cons x l ih => rw [List.foldl_cons, ih, hf, List.any_cons, Bool.or_assoc]

/-- The octet lists every index, so a search of it for one index comes down to the test there. -/
theorem octet_any_at (i : Fin 8) (c : Fin 8 → Bool) : octet.any (fun x => c x && decide (i = x)) = c i := by
  have hmem : i ∈ octet := by revert i; decide
  rw [Bool.eq_iff_iff, List.any_eq_true]
  constructor
  · rintro ⟨x, -, hx⟩
    obtain ⟨hc, rfl⟩ : c x = true ∧ i = x := by simpa using hx
    exact hc
  · exact fun hc => ⟨i, hmem, by simp [hc]⟩

/-- The inner loop over the columns of source row `j`: dot (i', j') is set iff it was, or `j` is its row and `c` tells the
loop to set column i'. -/
theorem scanColumns_bit {f : PrinterTile → Fin 8 → PrinterTile} {c : Fin 8 → Bool} {j : Fin 8}
    (hf : ∀ out i, f out i = if c i = true then setDot out i j else out) (out : PrinterTile) (i' j' : Fin 8) :
    (octet.foldl f out)[i'.val].getLsbD (7 - j'.val) = (out[i'.val].getLsbD (7 - j'.val) || (c i' && decide (j' = j))) := by
  have hstep : ∀ out i, (f out i)[i'.val].getLsbD (7 - j'.val)
      = (out[i'.val].getLsbD (7 - j'.val) || ((c i && decide (j' = j)) && decide (i' = i))) := by
    intro out i
    rw [hf]
    split
    · next hc => rw [setDot_bit, hc, Bool.true_and, Bool.and_comm]
    · next hc => simp [hc]
  rw [foldl_observed_or (fun out : PrinterTile => out[i'.val].getLsbD (7 - j'.val)) hstep,
    octet_any_at i' (fun i => c i && decide (j' = j))]

/-- The loop over the source rows, from the blank tile: dot (i, j) is what row `j` sets it to. -/
theorem scanRows_bit {f : PrinterTile → Fin 8 → PrinterTile} {c : Fin 8 → Fin 8 → Bool}
    (hf : ∀ out j (i' j' : Fin 8), (f out j)[i'.val].getLsbD (7 - j'.val)
      = (out[i'.val].getLsbD (7 - j'.val) || (c i' j && decide (j' = j)))) (i j : Fin 8) :
    (octet.foldl f blankTile)[i.val].getLsbD (7 - j.val) = c i j := by
  rw [foldl_observed_or (fun out : PrinterTile => out[i.val].getLsbD (7 - j.val)) (fun out j' => hf out j' i j),
    octet_any_at j (c i)]
  simp [blankTile]

/-! ### Single-plane mode (R124) -/

/-- The output bit of a pixel in single-plane mode is its bit in the selected plane (R126). -/
theorem xformPlane_bit (p : Pattern) (plane : Plane) (i j : Fin 8) :
    (xformPlane p plane)[i.val].getLsbD (7 - j.val) = (planeRow p plane j).getLsbD (7 - i.val) := by
  rw [xformPlane]
  refine scanRows_bit (c := fun i j => (planeRow p plane j).getLsbD (7 - i.val)) (fun out j i' j' => ?_) i j
  exact scanColumns_bit (fun _ _ => rfl) out i' j'

/-! ### Dithered mode (R125) -/

/-- The test of R125 against the byte `1 << (7-i)` is the test of bit 7-i. -/
theorem and_bitFromTop_ne_zero (b : Byte) (i : Fin 8) : b &&& bitFromTop i ≠ 0 ↔ b.getLsbD (7 - i.val) = true := by
  have hpow : bitFromTop i = BitVec.twoPow 8 (7 - i.val) := by revert i; decide
  have hne : BitVec.twoPow 8 (7 - i.val) ≠ 0#8 := by revert i; decide
  rw [hpow, BitVec.and_twoPow]
  split <;> simp_all

/-- The bits of the dither mask are the checkerboard (R122). -/
theorem ditherMask_bit (i j : Fin 8) : (ditherMask j).getLsbD (7 - i.val) = ((i.val + j.val) % 2 == 0) := by
  revert i j; decide

/-- One pass of R125's inner loop: either test sets the same dot. -/
theorem ditherRow_bit (p : Pattern) (m : Byte) (out : PrinterTile) (j i' j' : Fin 8) :
    (ditherRow p m out j)[i'.val].getLsbD (7 - j'.val) =
      (out[i'.val].getLsbD (7 - j'.val)
        || (((planeRow p .plane1 j).getLsbD (7 - i'.val)
              || ((planeRow p .plane0 j).getLsbD (7 - i'.val) && m.getLsbD (7 - i'.val))) && decide (j' = j))) := by
  refine scanColumns_bit (c := fun i => (planeRow p .plane1 j).getLsbD (7 - i.val)
    || ((planeRow p .plane0 j).getLsbD (7 - i.val) && m.getLsbD (7 - i.val))) (fun out i => ?_) out i' j'
  simp only [and_bitFromTop_ne_zero, BitVec.getLsbD_and, Bool.or_eq_true]
  split_ifs <;> simp_all

/-- The toggling mask of R125 is M_j (R122) in source row j. -/
theorem xformDither_eq_foldl (p : Pattern) :
    xformDither p = octet.foldl (fun out j => ditherRow p (ditherMask j) out j) blankTile := by
  simp [xformDither, ditherLoop, octet_foldl, ditherMask]

/-- The output bit of a pixel in dithered mode, from its two plane bits (R126). -/
theorem xformDither_bit (p : Pattern) (i j : Fin 8) :
    (xformDither p)[i.val].getLsbD (7 - j.val) =
      ((planeRow p .plane1 j).getLsbD (7 - i.val)
        || ((planeRow p .plane0 j).getLsbD (7 - i.val) && (i.val + j.val) % 2 == 0)) := by
  rw [xformDither_eq_foldl, scanRows_bit (fun out j => ditherRow_bit p (ditherMask j) out j), ditherMask_bit]

/-! ### The dots of a row -/

/-- What ASM answers (R142): RB is the row assembled from the framebuffer as it stands. -/
theorem execAsm_rb {row : BitVec 5} {psel : PlaneSel} {s t : State} (h : exec (.asm row psel) s = .next t) (n : Fin 160) :
    t.rb[n.val] =
      (xform (s.fb.fetchPattern (sourceTile s.fb (ConfigLatches.sample s.fb) row.toNat (n.val / 8))) psel)[n.val % 8]'(
        Nat.mod_lt _ (by decide)) := by
  cases h
  exact assembleRow_rb row.toNat psel (accept (.asm row psel) s) n.val n.isLt

/-- Settles O26: byte n of RB is byte n mod 8 of its column's tile, whose bits the transformer's closed forms give; n and
n mod 8 have one parity. -/
theorem asmDotsFollowTheShades : Obligations.AsmDotsFollowTheShades := by
  intro row psel s t _ h n j pat s0 s1
  have hparity : (n.val % 8 + j.val) % 2 = (n.val + j.val) % 2 := by omega
  have hi : n.val % 8 < 8 := Nat.mod_lt _ (by decide)
  rw [execAsm_rb h n]
  cases psel with
  | plane0 => exact xformPlane_bit pat .plane0 ⟨n.val % 8, hi⟩ j
  | plane1 => exact xformPlane_bit pat .plane1 ⟨n.val % 8, hi⟩ j
  | both =>
    have hbit := xformDither_bit pat ⟨n.val % 8, hi⟩ j
    rw [hparity] at hbit
    exact hbit

end Sys2Proof.Machine
end

section
/-! Decoder and encoder as inverses (R91, R92, R95): the fields of a word are the whole word, so a word that decodes is the
word of its command, and the value of a command's word is the sum of its fields at their places. -/

namespace Sys2Proof

/-! ### The fields and the word -/

/-- R91: the five fields side by side are the whole word. -/
theorem append_fields (w : CmdWord) :
    opcField w ++ (z1Field w ++ (pselField w ++ (z2Field w ++ rowField w))) = w := by
  simp only [opcField, z1Field, pselField, z2Field, rowField]
  rw [BitVec.extractLsb'_append_extractLsb'_eq_extractLsb' (show 5 = 0 + 5 from rfl),
    BitVec.extractLsb'_append_extractLsb'_eq_extractLsb' (show 8 = 0 + (3 + 5) from rfl),
    BitVec.extractLsb'_append_extractLsb'_eq_extractLsb' (show 10 = 0 + (2 + (3 + 5)) from rfl),
    BitVec.extractLsb'_append_extractLsb'_eq_extractLsb' (show 12 = 0 + (2 + (2 + (3 + 5))) from rfl)]
  exact BitVec.extractLsb'_eq_self

/-- Bit fields side by side have the sum of their values, each at its place. -/
theorem toNat_append_eq_add {m n : Nat} (x : BitVec m) (y : BitVec n) : (x ++ y).toNat = x.toNat * 2 ^ n + y.toNat := by
  rw [BitVec.toNat_append, ← Nat.shiftLeft_add_eq_or_of_lt y.isLt, Nat.shiftLeft_eq]

/-- The value of a command's word; the reserved fields add nothing. -/
theorem encode_toNat (i : Instr) :
    (encode i).toNat = 0x1000 * i.opcode.toNat + 0x100 * i.pselBits.toNat + i.rowBits.toNat := by
  simp only [encode, toNat_append_eq_add, BitVec.toNat_ofNat]
  omega

/-- Every word of ASM is the word of row 0 under the same selector, plus the row. -/
theorem encode_asm_toNat (row : BitVec 5) (psel : PlaneSel) :
    (encode (.asm row psel)).toNat = (encode (.asm 0 psel)).toNat + row.toNat := by
  rw [encode_toNat, encode_toNat]
  rfl

theorem encode_asm_eq_add (row : BitVec 5) (psel : PlaneSel) :
    encode (.asm row psel) = encode (.asm 0 psel) + row.setWidth 16 := by
  have hsum := encode_asm_toNat row psel
  bv_omega

/-! ### Round trips -/

/-- R92 step 2: a word that passes the check has zero reserved fields. -/
theorem reservedFields_of_checkReserved_ok {w : CmdWord} {k : Except DecodeRefusal Instr} {i : Instr}
    (h : checkReserved w k = .ok i) : z1Field w = 0 ∧ z2Field w = 0 := by
  unfold checkReserved at h
  split at h
  · cases h
  · next hzero => simpa using hzero

/-- Every format of R92 checks the reserved fields. -/
theorem reservedFields_of_decode_ok {w : CmdWord} {i : Instr} (h : decode w = .ok i) : z1Field w = 0 ∧ z2Field w = 0 := by
  unfold decode at h
  split at h
  · exact reservedFields_of_checkReserved_ok h
  · exact reservedFields_of_checkReserved_ok h
  · exact reservedFields_of_checkReserved_ok h
  · exact reservedFields_of_checkReserved_ok h
  · cases h

theorem encode_of_decode {w : CmdWord} {i : Instr} (h : decode w = .ok i) : encode i = w := by
  obtain ⟨hopc, hrow, hpsel, -⟩ := decode_fields h
  obtain ⟨hz1, hz2⟩ := reservedFields_of_decode_ok h
  calc encode i = opcField w ++ (z1Field w ++ (pselField w ++ (z2Field w ++ rowField w))) := by
        rw [encode, hopc, hpsel, hrow, hz1, hz2]; rfl
    _ = w := append_fields w

/-- Settles O1: only ASM has an operand that the well-formedness bounds. -/
theorem decodeReadsBackEveryCommand : Obligations.DecodeReadsBackEveryCommand := by
  intro i hwf
  cases i with
  | clr => rfl
  | asm row psel => exact decode_encode_asm row psel (of_decide_eq_true hwf)
  | tx1 => rfl
  | tx2 plane => exact decode_encode_tx2 plane

/-- Settles O2: the decoder determines all five fields of a legal word, and they are the word. -/
theorem legalWordIsTheWordOfItsCommand : Obligations.LegalWordIsTheWordOfItsCommand :=
  fun _ _ h => ⟨encode_of_decode h, (decode_fields h).wellFormed⟩

/-! ### The legal words -/

/-- The words from a selector's row 0 to its row 17 decode (R93). -/
theorem asmWord_decodes (psel : PlaneSel) {w : CmdWord} (hlo : (encode (.asm 0 psel)).toNat ≤ w.toNat)
    (hhi : w.toNat ≤ (encode (.asm 0 psel)).toNat + 17) : ∃ i, decode w = .ok i := by
  obtain ⟨r, hr⟩ := Nat.exists_eq_add_of_le hlo
  have hrow : (BitVec.ofNat 5 r).toNat = r := Nat.mod_eq_of_lt (by omega)
  have hword : w = encode (.asm (BitVec.ofNat 5 r) psel) :=
    BitVec.eq_of_toNat_eq (by rw [encode_asm_toNat, hrow, hr])
  exact ⟨_, hword ▸ decode_encode_asm _ psel (by omega)⟩

/-- Settles O3: a legal word is the word of its well-formed command, and the words of those are the listed ones. -/
theorem legalWordsAreTheListedOnes : Obligations.LegalWordsAreTheListedOnes := by
  intro w
  constructor
  · rintro ⟨i, h⟩
    have hwf := (decode_fields h).wellFormed
    rw [← encode_of_decode h]
    cases i with
    | clr => exact .inl rfl
    | asm row psel =>
      have hrow : row.toNat ≤ 17 := of_decide_eq_true hwf
      have hword := encode_asm_toNat row psel
      cases psel with
      | plane0 =>
        have hbase : (encode (.asm 0 .plane0)).toNat = 0x2000 := rfl
        omega
      | plane1 =>
        have hbase : (encode (.asm 0 .plane1)).toNat = 0x2100 := rfl
        omega
      | both =>
        have hbase : (encode (.asm 0 .both)).toNat = 0x2200 := rfl
        omega
    | tx1 => decide
    | tx2 plane => cases plane <;> decide
  · rintro (rfl | ⟨hlo, hhi⟩ | ⟨hlo, hhi⟩ | ⟨hlo, hhi⟩ | rfl | rfl | rfl)
    · exact ⟨.clr, rfl⟩
    · exact asmWord_decodes .plane0 hlo hhi
    · exact asmWord_decodes .plane1 hlo hhi
    · exact asmWord_decodes .both hlo hhi
    · exact ⟨.tx1, rfl⟩
    · exact ⟨.tx2 .plane0, rfl⟩
    · exact ⟨.tx2 .plane1, rfl⟩

/-! ### Words written out -/

theorem decode_ne_ok {w : CmdWord} {e : DecodeRefusal} (h : decode w = .error e) (i : Instr) : decode w ≠ .ok i := by
  simp [h]

/-- Settles O4: the two reserved words have opcodes that no command has. -/
theorem wordsOfTheSyntaxTableDecode : Obligations.WordsOfTheSyntaxTableDecode := by
  have hzeros : decode 0x0000 = .error .reservedOpcode := rfl
  have hones : decode 0xFFFF = .error .reservedOpcode := rfl
  exact ⟨rfl, rfl, rfl, rfl, rfl, rfl, rfl, decode_ne_ok hzeros, decode_ne_ok hones⟩

/-- Settles O5: ROW1 and ROW2 differ from their row 0 by the row, which each of their ASM words adds. -/
theorem macrosExpandToTheirWords : Obligations.MacrosExpandToTheirWords := by
  refine ⟨rfl, rfl, fun r => ⟨?_, ?_⟩⟩
  · rw [Pseudo.words, encode_asm_eq_add]
    rfl
  · rw [Pseudo.words, encode_asm_eq_add r .plane0, encode_asm_eq_add r .plane1]
    rfl

end Sys2Proof
end

section
/-! The algebra of the rotator (R123, R128) and the transformer's closed forms (R126). An output tile is its 64 dots, and the
rotator transposes them; both modes of the transformer are the rotator of eight row bytes, so their laws are laws of bytes. -/

namespace Sys2Proof.Machine

/-! ### Dots of bytes and tiles -/

/-- A byte is its eight bits, counted from the top as R127 does. -/
theorem byte_ext_fromTop {a b : Byte} (h : ∀ j : Fin 8, a.getLsbD (7 - j.val) = b.getLsbD (7 - j.val)) : a = b := by
  refine BitVec.eq_of_getLsbD_eq fun n hn => ?_
  have hbit := h ⟨7 - n, by omega⟩
  rwa [show 7 - (7 - n) = n by omega] at hbit

theorem tile_ext_dots {x y : PrinterTile}
    (h : ∀ i j : Fin 8, x[i.val].getLsbD (7 - j.val) = y[i.val].getLsbD (7 - j.val)) : x = y := by
  ext1 i hi
  exact byte_ext_fromTop (h ⟨i, hi⟩)

/-! ### The rotator (R123) -/

/-- The rotator's positional rule: the only pass that may set dot (i, j) is the one for column i of row j. -/
theorem rot_bit (x : PrinterTile) (i j : Fin 8) :
    (rot x)[i.val].getLsbD (7 - j.val) = x[j.val].getLsbD (7 - i.val) := by
  rw [rot]
  refine scanRows_bit (c := fun i j => x[j.val].getLsbD (7 - i.val)) (fun out j i' j' => ?_) i j
  exact scanColumns_bit (fun _ _ => rfl) out i' j'

/-- Settles O18. -/
theorem rotatorTransposesTheBits : Obligations.RotatorTransposesTheBits := rot_bit

theorem rot_rot (x : PrinterTile) : rot (rot x) = x :=
  tile_ext_dots fun i j => by rw [rot_bit, rot_bit]

theorem rot_injective : Function.Injective rot := Function.LeftInverse.injective rot_rot

/-- The rotator moves bits and reads none, so it distributes over every operation that works bit by bit. -/
theorem rot_zipWith {f : Byte → Byte → Byte} {g : Bool → Bool → Bool}
    (hf : ∀ a b n, (f a b).getLsbD n = g (a.getLsbD n) (b.getLsbD n)) (x y : PrinterTile) :
    rot (Vector.zipWith f x y) = Vector.zipWith f (rot x) (rot y) :=
  tile_ext_dots fun i j => by simp only [rot_bit, Vector.getElem_zipWith, hf]

/-- Settles O20: or, and, xor work bit by bit. -/
theorem rotatorDistributesAndInverts : Obligations.RotatorDistributesAndInverts := fun x y =>
  ⟨rot_rot x, rot_zipWith (fun _ _ _ => BitVec.getLsbD_or) x y, rot_zipWith (fun _ _ _ => BitVec.getLsbD_and) x y,
    rot_zipWith (fun _ _ _ => BitVec.getLsbD_xor) x y⟩

/-! ### Closed forms (R126) -/

theorem xformPlane_eq_rot (p : Pattern) (plane : Plane) :
    xformPlane p plane = rot (Vector.ofFn fun j : Fin 8 => planeRow p plane j) :=
  tile_ext_dots fun i j => by rw [xformPlane_bit, rot_bit, Vector.getElem_ofFn]

theorem xformDither_eq_rot (p : Pattern) :
    xformDither p = rot (Vector.ofFn fun j : Fin 8 => planeRow p .plane1 j ||| (planeRow p .plane0 j &&& ditherMask j)) :=
  tile_ext_dots fun i j => by
    rw [xformDither_bit, rot_bit, Vector.getElem_ofFn, BitVec.getLsbD_or, BitVec.getLsbD_and, ditherMask_bit]

/-- Settles O19: the row bytes of the two planes are P[2j] and P[2j+1]. -/
theorem transformerClosedForms : Obligations.TransformerClosedForms := by
  intro p
  refine ⟨xformPlane_eq_rot p, xformDither_eq_rot p, fun i j => ⟨?_, ?_, ?_, ditherMask_bit i j⟩⟩
  · exact xformPlane_bit p .plane0 i j
  · exact xformPlane_bit p .plane1 i j
  · exact xformDither_bit p i j

/-! ### Single-plane mode as a bijection (R128 law 4) -/

/-- The pattern with the row bytes `x` in both planes. -/
def patternOfRows (x : PrinterTile) : Pattern := Vector.ofFn fun k => x[k.val / 2]

theorem planeRow_patternOfRows (x : PrinterTile) (plane : Plane) (j : Fin 8) :
    planeRow (patternOfRows x) plane j = x[j.val] := by
  have hhalf : (2 * j.val + (planeOffset plane).val) / 2 = j.val := by omega
  simp only [planeRow, patternOfRows, Vector.getElem_ofFn, hhalf]

theorem xformPlane_patternOfRows (x : PrinterTile) (plane : Plane) : xformPlane (patternOfRows x) plane = rot x := by
  rw [xformPlane_eq_rot]
  congr 1
  ext1 j hj
  rw [Vector.getElem_ofFn, planeRow_patternOfRows]

theorem ofFn_eq_ofFn_iff {f g : Fin 8 → Byte} : Vector.ofFn f = Vector.ofFn g ↔ ∀ j, f j = g j := by
  simp only [Vector.ext_iff, Vector.getElem_ofFn, Fin.forall_iff]

/-- Settles O21: the rotator is injective on the eight row bytes, and the tile `o` comes from the rows Rot(o). -/
theorem planeTransformIsABijection : Obligations.PlaneTransformIsABijection := by
  refine ⟨fun p q plane => ?_, fun plane o => ⟨patternOfRows (rot o), ?_⟩⟩
  · rw [xformPlane_eq_rot, xformPlane_eq_rot, rot_injective.eq_iff, ofFn_eq_ofFn_iff]
  · rw [xformPlane_patternOfRows, rot_rot]

/-! ### Blank and full tiles, and the bounds of dithering (R128) -/

theorem planeRow_replicate (b : Byte) (plane : Plane) (j : Fin 8) : planeRow (Vector.replicate 16 b) plane j = b :=
  Vector.getElem_replicate _

/-- Where both planes hold one byte in every row, the mask does not matter: b | (b & M) = b. -/
theorem xform_replicate (b : Byte) (psel : PlaneSel) :
    xform (Vector.replicate 16 b) psel = rot (Vector.ofFn fun _ => b) := by
  cases psel with
  | plane0 => simp only [xform, xformPlane_eq_rot, planeRow_replicate]
  | plane1 => simp only [xform, xformPlane_eq_rot, planeRow_replicate]
  | both =>
    have habsorb (m : Byte) : b ||| (b &&& m) = b := BitVec.eq_of_getLsbD_eq fun n _ => by
      rw [BitVec.getLsbD_or, BitVec.getLsbD_and]
      exact sup_inf_self
    simp only [xform, xformDither_eq_rot, planeRow_replicate, habsorb]

theorem xformDither_of_plane0_zero {p : Pattern} (h : ∀ j, planeRow p .plane0 j = 0) :
    xformDither p = xformPlane p .plane1 := by
  simp only [xformDither_eq_rot, xformPlane_eq_rot, h, BitVec.ofNat_eq_ofNat, BitVec.zero_and, BitVec.or_zero]

/-- Settles O22: dot by dot, s1 implies s1 | (s0 & M), which implies s0 | s1. -/
theorem ditherLiesBetweenThePlanes : Obligations.DitherLiesBetweenThePlanes := by
  refine ⟨fun psel => (xform_replicate _ psel).trans (by decide), fun psel => (xform_replicate _ psel).trans (by decide),
    fun p i => ⟨byte_ext_fromTop fun j => ?_, byte_ext_fromTop fun j => ?_, xformDither_of_plane0_zero⟩⟩
  · rw [BitVec.getLsbD_and, xformPlane_bit, xformDither_bit]
    exact inf_sup_self
  · rw [BitVec.getLsbD_and, BitVec.getLsbD_or, xformPlane_bit, xformPlane_bit, xformDither_bit]
    cases (planeRow p .plane0 j).getLsbD (7 - i.val) <;> simp

/-! ### Dithering without plane 1 (R129) -/

/-- Without plane 1 only the masked plane 0 is left. -/
theorem xformDither_of_plane1_zero {p : Pattern} (h : ∀ j, planeRow p .plane1 j = 0) :
    xformDither p = rot (Vector.ofFn fun j : Fin 8 => planeRow p .plane0 j &&& ditherMask j) := by
  simp only [xformDither_eq_rot, h, BitVec.ofNat_eq_ofNat, BitVec.zero_or]

/-- The checkerboard that is set where i + j is even is the mask itself. -/
theorem eq_ditherMask_of_inPhase {b : Byte} {j : Fin 8}
    (h : ∀ i : Fin 8, b.getLsbD (7 - i.val) = decide ((i.val + j.val) % 2 = 0)) : b = ditherMask j :=
  byte_ext_fromTop fun i => by rw [h, ditherMask_bit, beq_eq_decide]

/-- The checkerboard that is set where i + j is odd has no dot under the mask. -/
theorem and_ditherMask_of_outOfPhase {b : Byte} {j : Fin 8}
    (h : ∀ i : Fin 8, b.getLsbD (7 - i.val) = decide ((i.val + j.val) % 2 = 1)) : b &&& ditherMask j = 0 := by
  refine byte_ext_fromTop fun i => ?_
  rw [BitVec.getLsbD_and, h, ditherMask_bit]
  rcases Nat.mod_two_eq_zero_or_one (i.val + j.val) with hpar | hpar <;> simp [hpar]

/-- Settles O23: the in-phase checkerboard is the mask, which masking keeps, and the other one is disjoint from it. -/
theorem ditherParity : Obligations.DitherParity := by
  refine ⟨fun p q h1 hq => ?_, fun p h1 hin => ?_, fun p h1 hout => ?_⟩
  · rw [xformDither_of_plane1_zero h1, xformPlane_eq_rot]
    simp only [hq, ditherMask]
  · have hrow (j : Fin 8) : planeRow p .plane0 j = ditherMask j := eq_ditherMask_of_inPhase fun i => hin i j
    have hmask : xformDither p = rot (Vector.ofFn ditherMask) := by
      simp only [xformDither_of_plane1_zero h1, hrow, BitVec.and_self]
    constructor
    · simp only [hmask, xformPlane_eq_rot, hrow]
    · rw [hmask]
      decide
  · have hrow (j : Fin 8) : planeRow p .plane0 j &&& ditherMask j = 0 := and_ditherMask_of_outOfPhase fun i => hout i j
    simp only [xformDither_of_plane1_zero h1, hrow]
    decide

end Sys2Proof.Machine
end

section
/-! The row assembler as a function of the framebuffer (O24, O25, O27 to O29): a row's bytes depend on the framebuffer through the
ids at its source cells and their patterns only (R149), so what a row reads is a question about `sourceTile`. -/

namespace Sys2Proof.Machine

/-! ### CLR (R141) -/

/-- Settles O24: acceptance, the cleared row and completion write the five fields named, one after the other. -/
theorem clrMakesTheBlankRow : Obligations.ClrMakesTheBlankRow := by
  refine ⟨by decide, fun s => ?_⟩
  show Host.Outcome.next (complete true (clearRow (accept .clr s))) = _
  rfl

/-! ### The window test (R143) -/

theorem usingWindow_iff {r : Nat} {c : ConfigLatches} : usingWindow r c = true ↔ c.lwy ≤ r * 8 ∧ c.lwin = true := by
  rw [usingWindow, Bool.and_eq_true, decide_eq_true_iff]

theorem usingWindow_eq_false_iff {r : Nat} {c : ConfigLatches} :
    usingWindow r c = false ↔ ¬(c.lwin = true ∧ c.lwy ≤ r * 8) := by
  rw [← Bool.not_eq_true, usingWindow_iff, and_comm]

/-- Settles O27: every clause is the comparison of WY with 8r, which is at most 136. -/
theorem windowTestFollowsWy : Obligations.WindowTestFollowsWy := by
  intro r c hr
  refine ⟨usingWindow_iff, fun hoff => ?_, fun hon hwy => ?_, fun hon hwy => ?_, fun hon => ?_⟩
  · exact usingWindow_eq_false_iff.2 fun ⟨hon, _⟩ => Bool.false_ne_true (hoff.symm.trans hon)
  · exact usingWindow_iff.2 ⟨by omega, hon⟩
  · exact usingWindow_eq_false_iff.2 fun ⟨_, hle⟩ => by omega
  · have hceil : (c.lwy + 7) / 8 ≤ r ↔ c.lwy ≤ r * 8 := by omega
    rw [usingWindow_iff, hceil, and_iff_left hon]

/-! ### The source cell (R144, R145, R149) -/

theorem sourceTile_window {r : Nat} {c : ConfigLatches} (h : usingWindow r c = true) (fb : FrameBuffer) (t : Nat) :
    sourceTile fb c r t = fb.readWin (mod32 t) (mod32 (r - c.lwy / 8)) := if_pos h

theorem sourceTile_background {r : Nat} {c : ConfigLatches} (h : usingWindow r c = false) (fb : FrameBuffer) (t : Nat) :
    sourceTile fb c r t = fb.readBkg (mod32 (t + c.lscx / 8)) (mod32 (r + c.lscy / 8)) :=
  if_neg (ne_true_of_eq_false h)

/-- Under latches sampled at acceptance the source cell is R149's `src(t, r)` of the framebuffer's own level inputs. -/
theorem sourceTile_sample (fb : FrameBuffer) (r t : Nat) :
    sourceTile fb (ConfigLatches.sample fb) r t =
      if fb.winEn = true ∧ fb.wy ≤ r * 8 then fb.readWin (mod32 t) (mod32 (r - fb.wy / 8))
      else fb.readBkg (mod32 (t + fb.scx / 8)) (mod32 (r + fb.scy / 8)) :=
  if_congr (usingWindow_iff.trans and_comm) rfl rfl

/-! ### ASM (R142) -/

/-- A slot's eight bytes lie in its own column (R147). -/
theorem slotByte_div (c : Fin 20) (i : Fin 8) : (8 * c.val + i.val) / 8 = c.val := by omega

/-- Slot c of the row that ASM leaves (R147): the transform of the pattern of the id at the source cell. -/
theorem execAsm_slot {row : BitVec 5} {psel : PlaneSel} {s t : State} (h : exec (.asm row psel) s = .next t)
    (c : Fin 20) (i : Fin 8) :
    t.rb[8 * c.val + i.val] =
      (xform (s.fb.fetchPattern (sourceTile s.fb (ConfigLatches.sample s.fb) row.toNat c.val)) psel)[i.val] := by
  have hbyte : (8 * c.val + i.val) % 8 = i.val := by omega
  have hrb := execAsm_rb h ⟨8 * c.val + i.val, by omega⟩
  simpa only [slotByte_div, hbyte] using hrb

/-- "Nothing else determines RB" (R149): two framebuffers with the same patterns and the same id at the source of byte n's
column give the same byte n. -/
theorem execAsm_rb_congr {row : BitVec 5} {psel : PlaneSel} {s s' t u : State} (ht : exec (.asm row psel) s = .next t)
    (hu : exec (.asm row psel) s' = .next u) (hpattern : s'.fb.pattern = s.fb.pattern) (n : Fin 160)
    (hsource : sourceTile s'.fb (ConfigLatches.sample s'.fb) row.toNat (n.val / 8) =
      sourceTile s.fb (ConfigLatches.sample s.fb) row.toNat (n.val / 8)) : u.rb[n.val] = t.rb[n.val] := by
  rw [execAsm_rb hu, execAsm_rb ht]
  simp only [hsource, FrameBuffer.fetchPattern, hpattern]

theorem execAsm_succeeded {row : BitVec 5} {psel : PlaneSel} {s t : State} (h : exec (.asm row psel) s = .next t) :
    t.succeeded (.asm row psel) := by
  cases h
  simp [State.succeeded, Status.completed, OperandLatches.ofInstr]

theorem execAsm_cfg {row : BitVec 5} {psel : PlaneSel} {s t : State} (h : exec (.asm row psel) s = .next t) :
    t.cfg = ConfigLatches.sample s.fb := by
  cases h
  rw [complete_cfg, assembleRow_cfg]
  rfl

theorem execAsm_sameForAssembly {row : BitVec 5} {psel : PlaneSel} {s t : State} (h : exec (.asm row psel) s = .next t) :
    s.sameForAssembly t := by
  have hsame := exec_sameSurroundings h
  cases h
  simp [State.sameForAssembly, hsame]

/-- Settles O25: the bytes from `execAsm_slot`, their source cell as R149 writes it. -/
theorem asmAssemblesTheRow : Obligations.AsmAssemblesTheRow := by
  intro row psel s _
  obtain ⟨t, ht⟩ : ∃ t, exec (.asm row psel) s = .next t := ⟨_, rfl⟩
  refine ⟨t, ht, execAsm_succeeded ht, fun c i => ?_, execAsm_cfg ht, execAsm_sameForAssembly ht⟩
  rw [execAsm_slot ht, sourceTile_sample]
  rfl

/-! ### Locality in the background map (R150) -/

/-- Whatever the form of the list, putting an id into one background cell leaves every other cell's reading. -/
theorem FrameBuffer.readBkg_writeBkg_ne (fb : FrameBuffer) {c m c' m' : Fin 32} (id : Nat) (h : ¬(c' = c ∧ m' = m)) :
    (fb.writeBkg c m id).readBkg c' m' = fb.readBkg c' m' :=
  cellRead_cellWrite_ne fb.bkg id (mt mapKey_inj.1 h)

/-- The id of a visible tile changes with a background cell only if that cell is its source. -/
theorem source_eq_of_sourceTile_writeBkg_ne {fb : FrameBuffer} {cfg : ConfigLatches} {r t id : Nat} {c m : Fin 32}
    (h : sourceTile (fb.writeBkg c m id) cfg r t ≠ sourceTile fb cfg r t) :
    usingWindow r cfg = false ∧ mod32 (t + cfg.lscx / 8) = c ∧ mod32 (r + cfg.lscy / 8) = m := by
  cases hw : usingWindow r cfg with
  | true =>
    rw [sourceTile_window hw, sourceTile_window hw] at h
    exact absurd rfl h
  | false =>
    rw [sourceTile_background hw, sourceTile_background hw] at h
    by_contra hcell
    exact h (fb.readBkg_writeBkg_ne id fun hsource => hcell ⟨rfl, hsource⟩)

/-- A map wraps at 32, so columns below 32, or rows, scrolled by one offset stay apart. -/
theorem eq_of_add_mod_32_eq {a b : Nat} (ha : a < 32) (hb : b < 32) {n : Nat} (h : (a + n) % 32 = (b + n) % 32) : a = b := by
  omega

/-- Settles O28: a byte that changes has another id at its source, so the cell written is that source. -/
theorem asmBackgroundLocality : Obligations.AsmBackgroundLocality := by
  constructor
  · intro row psel s t u c m id _ ht hu k i hne
    have hid : sourceTile (s.fb.writeBkg c m id) (ConfigLatches.sample s.fb) row.toNat k.val
        ≠ sourceTile s.fb (ConfigLatches.sample s.fb) row.toNat k.val := by
      intro hid
      rw [← slotByte_div k i] at hid
      exact hne (execAsm_rb_congr ht hu rfl ⟨8 * k.val + i.val, by omega⟩ hid)
    obtain ⟨hwin, rfl, rfl⟩ := source_eq_of_sourceTile_writeBkg_ne hid
    exact ⟨usingWindow_eq_false_iff.1 hwin, rfl, rfl⟩
  · intro scx scy k r k' r' hk hk' hr hr' hcol hrow
    exact ⟨eq_of_add_mod_32_eq (by omega) (by omega) hcol, eq_of_add_mod_32_eq (by omega) (by omega) hrow⟩

/-! ### Scrolling (R148, R151) -/

theorem mod32_add_congr {a b : Nat} (h : a % 32 = b % 32) (n : Nat) : mod32 (n + a) = mod32 (n + b) :=
  Fin.ext (Nat.ModEq.add_left n h)

/-- The scroll inputs enter the source cell through their tile offsets modulo 32 alone. -/
theorem sourceTile_scroll_congr {fb : FrameBuffer} {scx scy : Nat} (hx : scx / 8 % 32 = fb.scx / 8 % 32)
    (hy : scy / 8 % 32 = fb.scy / 8 % 32) (r t : Nat) :
    sourceTile { fb with scx := scx, scy := scy } (ConfigLatches.sample { fb with scx := scx, scy := scy }) r t =
      sourceTile fb (ConfigLatches.sample fb) r t := by
  simp only [sourceTile_sample, mod32_add_congr hx, mod32_add_congr hy]
  rfl

/-- Settles O29: the same scroll modulo 32 gives every column the same source id. -/
theorem asmScrollByTilesModulo32 : Obligations.AsmScrollByTilesModulo32 := by
  intro row psel s t u scx scy _ hx hy ht hu
  ext1 n hn
  exact execAsm_rb_congr ht hu rfl ⟨n, hn⟩ (sourceTile_scroll_congr hx hy row.toNat (n / 8))

end Sys2Proof.Machine
end

section
/-! The single-pass transmitter (O31 to O34): how the two ends of a transmit command read as a status, the phases of TX1
behind its packets as one closed form, and from them the transactions, the end state and the payload of TX1. -/

namespace Sys2Proof.Machine

/-! ### The retry wrapper (R163) -/

/-- Settles O31: the closed forms of success and of exhaustion write ATT, the trace and the link layer only. -/
theorem retryWrapperIsBounded : Obligations.RetryWrapperIsBounded := fun s =>
  ⟨fun f hf h => ⟨s.afterSuccess f (f + 1), sendPacketRetry_success hf h, rfl, rfl, rfl⟩,
    fun h => ⟨s.afterExhaustion, sendPacketRetry_exhausted h, rfl, rfl, rfl⟩⟩

/-! ### The ends of a transmit command -/

theorem complete_succeeded {i : Instr} {s : State} (hops : s.ops = OperandLatches.ofInstr i) (heinfo : s.einfo = 0) :
    (complete true s).succeeded i :=
  ⟨rfl, heinfo, rfl, hops⟩

/-- A packet number keeps its value in EINFO (R37). -/
theorem raiseTimeout_timedOut {i : Instr} {k : Nat} {s : State} (hops : s.ops = OperandLatches.ofInstr i)
    (hpkt : s.pkt = BitVec.ofNat 4 k) (hk : k < 16) : (raiseTimeout s).timedOut i k := by
  refine ⟨rfl, ?_, rfl, hops, hpkt⟩
  rw [raiseTimeout_einfo, hpkt, BitVec.setWidth_ofNat_of_le_of_lt (by omega) hk]

theorem State.TransmitEnd.sameForTransmit {s t : State} (h : s.TransmitEnd t) : s.sameForTransmit t := by
  cases h with
  | completed u hsame _ => exact hsame.trans ⟨rfl, rfl, rfl, complete_sameSurroundings true u⟩
  | timedOut u hsame _ => exact hsame.trans ⟨rfl, rfl, rfl, raiseTimeout_sameSurroundings u⟩

theorem execTx1_sameForTransmit (s : State) : s.sameForTransmit (runTx1 (accept .tx1 s)) :=
  State.sameForTransmit.trans ⟨rfl, rfl, rfl, accept_sameSurroundings .tx1 s⟩ (runTx1_end _).sameForTransmit

/-! ### The phases of TX1 behind its packets (R164 to R167) -/

theorem LinkLayer.afterReads_add (m n : Nat) (l : LinkLayer) :
    LinkLayer.afterReads n (LinkLayer.afterReads m l) = LinkLayer.afterReads (m + n) l := by
  induction m generalizing l with
  | zero => simp [LinkLayer.afterReads]
  | succ m ih => rw [Nat.add_right_comm]; exact ih _

theorem rxbAfterReads_add (m n : Nat) (l : LinkLayer) (b : Byte) :
    rxbAfterReads n (LinkLayer.afterReads m l) (rxbAfterReads m l b) = rxbAfterReads (m + n) l b := by
  induction m generalizing l b with
  | zero => simp [LinkLayer.afterReads, rxbAfterReads]
  | succ m ih => rw [Nat.add_right_comm]; exact ih _ _

theorem State.arrives_of_afterReads {s t : State} {m : Nat} (h : t.link = LinkLayer.afterReads m s.link) (n : Nat) :
    t.arrives n = s.arrives (m + n) := by
  rw [State.arrives, h, LinkLayer.readAnswer_afterReads, State.arrives]

/-- The terminator phase and the pacing, in closed form. -/
theorem closeRow_eq (s : State) :
    closeRow s =
      { s with
        rxb := rxbAfterReads 2 s.link s.rxb
        link := LinkLayer.afterReads 2 s.link
        trace := s.trace ++ closeTrace fun n => s.arrives (n - 118) } := by
  simp [closeRow, linkReadWait_eq, sleepMs_eq, closeTrace, State.arrives, rxbAfterReads, LinkLayer.afterReads,
    LinkLayer.nextRead_fst, LinkLayer.readAnswer_nextRead]

/-- Everything the phases of TX1 behind its packets do: 120 reads, and IDX left at the last of the six zero bytes. -/
theorem bytePhases_eq (s : State) :
    closeRow (tailPhase (bulkPhase s)) =
      { s with
        idx := 5
        rxb := rxbAfterReads 120 s.link s.rxb
        link := LinkLayer.afterReads 120 s.link
        trace := s.trace ++ bulkTrace s.arrives s.rb ++ tailTrace s.arrives ++ closeTrace s.arrives } := by
  have hbulk : ∀ n, (bulkPhase s).arrives n = s.arrives (112 + n) :=
    State.arrives_of_afterReads (by rw [bulkPhase_eq])
  have htail : ∀ n, (tailPhase (bulkPhase s)).arrives n = s.arrives (118 + n) :=
    State.arrives_of_afterReads (by simp only [tailPhase_eq, bulkPhase_eq, LinkLayer.afterReads_add])
  have htailTrace : tailTrace (fun n => (bulkPhase s).arrives (n - 112)) = tailTrace s.arrives := by
    simp only [tailTrace, hbulk, Nat.add_sub_cancel_left]
  have hcloseTrace : closeTrace (fun n => (tailPhase (bulkPhase s)).arrives (n - 118)) = closeTrace s.arrives := by
    simp only [closeTrace, htail]
  rw [closeRow_eq, hcloseTrace, tailPhase_eq, htailTrace, bulkPhase_eq]
  simp only [LinkLayer.afterReads_add, rxbAfterReads_add]

/-! ### TX1 (R161) -/

theorem runTx1_of_sent {s u : State} (h : sendPackets tx1Packets s = (true, u)) :
    runTx1 s = complete true (closeRow (tailPhase (bulkPhase u))) := by
  simp [runTx1, h]

/-- TX1 completes behind its packets: IDX, RXB and the trace are the later phases' work, the other registers as the packets left
them. -/
theorem runTx1_registers_of_sent {s u : State} (h : sendPackets tx1Packets s = (true, u)) :
    ∃ v, runTx1 s = complete true v ∧ v.ops = u.ops ∧ v.einfo = u.einfo ∧ v.txb = u.txb ∧ v.txlen = u.txlen
      ∧ v.pkt = u.pkt ∧ v.att = u.att ∧ v.idx = 5 ∧ v.rxb = rxbAfterReads 120 u.link u.rxb
      ∧ v.trace = u.trace ++ bulkTrace u.arrives u.rb ++ tailTrace u.arrives ++ closeTrace u.arrives :=
  ⟨_, runTx1_of_sent h, by simp only [bytePhases_eq, and_self]⟩

theorem runTx1_of_lost {s u : State} (h : sendPackets tx1Packets s = (false, u)) : runTx1 s = u := by
  simp [runTx1, h]

theorem packetsFrom_append (first m n : Nat) :
    packetsFrom first (m + n) = packetsFrom first m ++ packetsFrom (first + m) n := by
  simp [packetsFrom, ← List.range'_append_1]

theorem tx1Packets_eq {n : Nat} (hn : n ≤ 4) : tx1Packets = packetsFrom 0 n ++ packetsFrom n (4 - n) := by
  have hall : tx1Packets = packetsFrom 0 4 := rfl
  rw [hall, ← Nat.add_sub_cancel' hn, packetsFrom_append]
  simp

/-- Settles O32: the packet loop's four packets, and then the closed form of the phases behind them. -/
theorem tx1SendsTheRow : Obligations.Tx1SendsTheRow := by
  intro s fs hlen hw h
  obtain ⟨u, hsend, htrace, -, hread, -, hregs, honly⟩ :=
    sendPackets_success fs 0 (packetsFrom fs.length (4 - fs.length)) (accept .tx1 s) [] (by omega) hw
      (by rw [List.append_nil]; exact (sendsAnswered_congr rfl _).2 h)
  rw [← tx1Packets_eq (by omega)] at hsend
  obtain ⟨htxb, htxlen, hpkt, hatt⟩ := hregs (by rintro rfl; simp at hlen)
  rw [hlen] at hsend htxb hpkt
  obtain ⟨-, hrb, hrxb, -, hops, -, -, -, -, heinfo, -⟩ := State.onlyPackets_congr honly
  have harrives : u.arrives = s.arrives := funext fun n => congrArg Option.isSome (hread n)
  obtain ⟨v, hrun, hops', heinfo', htxb', htxlen', hpkt', hatt', hidx, hrxb', htrace'⟩ := runTx1_registers_of_sent hsend
  refine ⟨complete true v, congrArg Host.Outcome.next hrun, complete_succeeded (hops'.trans hops) (heinfo'.trans heinfo), ?_,
    (congrArg Vector.toList htxb').trans htxb, htxlen'.trans htxlen, hpkt'.trans hpkt, hidx, hatt'.trans hatt,
    fun hnone => ?_, hrun ▸ execTx1_sameForTransmit s⟩
  · rw [complete_trace, htrace', htrace, harrives, hrb]
    rfl
  · have hkept := rxbAfterReads_none 120 u.link u.rxb fun n hn => hread n ▸ hnone n hn
    exact hrxb'.trans (hkept.trans hrxb)

/-- Settles O33: the packet loop's own end at the exhausted packet is the end of TX1. -/
theorem tx1StopsAtTheExhaustedPacket : Obligations.Tx1StopsAtTheExhaustedPacket := by
  intro s fs hlen hw h
  obtain ⟨u, hsend, htrace, htxb, htxlen, hpkt, hatt, honly⟩ :=
    sendPackets_exhausted fs 0 (packetsFrom (fs.length + 1) (4 - (fs.length + 1))) (accept .tx1 s) (by omega) hw
      ((sendsAnswered_congr rfl _).2 h)
  rw [← tx1Packets_eq (by omega)] at hsend
  rw [Nat.zero_add] at htrace htxb hpkt
  obtain ⟨-, -, hrxb, -, hops, -, -, hidx, -⟩ := State.onlyPackets_congr honly
  have hrun := runTx1_of_lost hsend
  exact ⟨raiseTimeout u, congrArg Host.Outcome.next hrun, raiseTimeout_timedOut hops hpkt (by omega), htrace, htxb, htxlen,
    hatt, hidx, hrxb, hrun ▸ execTx1_sameForTransmit s⟩

/-- The payload of a TX1 that completes is the whole of RB, split between packets and bulk phase at byte 48, and six zeros. -/
theorem payload_tx1 {fs : List Nat} (hlen : fs.length = 4) (c : Byte) (rb : Vector Byte 160) (a : Nat → Bool) :
    payload (dataTrace c rb 0 fs ++ bulkTrace a rb ++ tailTrace a ++ closeTrace a) = rb.toList ++ List.replicate 6 0x00 := by
  simp only [payload_append, payload_dataTrace, payload_bulkTrace, payload_tailTrace, payload_closeTrace, hlen,
    List.append_nil]
  exact congrArg (· ++ _) (List.take_append_drop 48 rb.toList)

/-- Settles O34: whatever the link answers, the packets all succeed or one of them is the first to exhaust its retries. -/
theorem tx1PayloadIsTheRowOrAPrefix : Obligations.Tx1PayloadIsTheRowOrAPrefix := by
  intro s
  rcases packets_cases 4 s with ⟨fs, hlen, hw, h⟩ | ⟨fs, hlen, hw, h⟩
  · obtain ⟨t, hexec, hdone, htrace, -, -, -, -, -, -, hsame⟩ := tx1SendsTheRow s fs hlen hw h
    have hpayload := payload_tx1 hlen s.params.cmdPrintSendBytes s.rb s.arrives
    exact ⟨t, _, hexec, by simpa only [List.append_assoc] using htrace, hsame,
      .inl ⟨hdone, by simpa only [List.append_assoc] using hpayload, by simpa using congrArg List.length hpayload⟩⟩
  · obtain ⟨t, hexec, hlost, htrace, -, -, -, -, -, hsame⟩ := tx1StopsAtTheExhaustedPacket s fs (by omega) hw h
    rw [List.append_assoc] at htrace
    refine ⟨t, _, hexec, htrace, hsame, .inr ⟨fs.length, by omega, hlost, ?_⟩⟩
    rw [payload_append, payload_dataTrace, payload_exhaustedTrace, List.append_nil]
    rfl

end Sys2Proof.Machine
end

section
/-! The answers to reads (O35): the packet phase takes none, so it runs the same on two link layers that differ in them, and the
phases behind it pass them on to RXB and to the recorded arrivals only. -/

namespace Sys2Proof.Machine

/-! ### Other answers to the reads -/

/-- The link layer with other coming answers to reads. -/
def LinkLayer.withReads (script : List (Option Byte)) (draws : Nat) (l : LinkLayer) : LinkLayer :=
  { l with readScript := script, readDraws := draws }

/-- The state with other coming answers to reads. -/
def State.withReads (script : List (Option Byte)) (draws : Nat) (s : State) : State :=
  s.setLink (s.link.withReads script draws)

/-- The state `u` differs from `t` at most as the answers to reads may make it differ: in the arrivals its trace records, in RXB
and in the link layer (R171, R243). -/
def State.sameButReads (t u : State) : Prop :=
  u.trace.map Event.request = t.trace.map Event.request
    ∧ { u with trace := t.trace, rxb := t.rxb, link := t.link } = t

section
variable (script : List (Option Byte)) (draws : Nat)

theorem State.sameButReads_withReads (s : State) : s.sameButReads (s.withReads script draws) := ⟨rfl, rfl⟩

theorem LinkLayer.nextSend_withReads (l : LinkLayer) :
    (l.withReads script draws).nextSend = (l.nextSend.1, l.nextSend.2.withReads script draws) := by
  unfold LinkLayer.nextSend LinkLayer.withReads
  cases l.sendScript <;> rfl

theorem LinkLayer.afterSends_withReads (n : Nat) (l : LinkLayer) :
    LinkLayer.afterSends n (l.withReads script draws) = (LinkLayer.afterSends n l).withReads script draws := by
  induction n generalizing l with
  | zero => rfl
  | succ n ih => rw [LinkLayer.afterSends, LinkLayer.nextSend_withReads]; exact ih _

theorem sendsAnswered_withReads (s : State) (as : List Bool) :
    (s.withReads script draws).sendsAnswered as ↔ s.sendsAnswered as :=
  Iff.rfl

theorem State.afterPacket_withReads (k : Fin 13) (f : Nat) (s : State) :
    (s.withReads script draws).afterPacket k f = (s.afterPacket k f).withReads script draws := by
  simp only [State.afterPacket, State.withReads, State.setLink, LinkLayer.afterSends_withReads]

theorem State.afterLostPacket_withReads (k : Fin 13) (s : State) :
    (s.withReads script draws).afterLostPacket k = (s.afterLostPacket k).withReads script draws := by
  simp only [State.afterLostPacket, State.withReads, State.setLink, LinkLayer.afterSends_withReads]

/-- The packet phase takes no answer to a read. -/
theorem sendPackets_withReads (ks : List (Fin 13)) (s : State) :
    sendPackets ks (s.withReads script draws)
      = ((sendPackets ks s).1, (sendPackets ks s).2.withReads script draws) := by
  induction ks generalizing s with
  | nil => rfl
  | cons k ks ih =>
    rcases sendsAnswered_cases 10 s with ⟨f, hf, h⟩ | h
    · rw [sendPackets_cons_success k ks s f (by omega) h,
        sendPackets_cons_success k ks _ f (by omega) ((sendsAnswered_withReads script draws s _).2 h),
        State.afterPacket_withReads, ih]
    · rw [sendPackets_cons_exhausted k ks s h,
        sendPackets_cons_exhausted k ks _ ((sendsAnswered_withReads script draws s _).2 h), State.afterLostPacket_withReads]
      rfl

/-! ### The recorded requests -/

theorem map_request_bulkTrace (a : Nat → Bool) (rb : Vector Byte 160) :
    (bulkTrace a rb).map Event.request = bulkTrace (fun _ => false) rb := by
  simp [bulkTrace, List.map_flatMap, Event.request]

theorem map_request_tailTrace (a : Nat → Bool) : (tailTrace a).map Event.request = tailTrace fun _ => false := rfl

theorem map_request_closeTrace (a : Nat → Bool) : (closeTrace a).map Event.request = closeTrace fun _ => false := rfl

/-- The phases of TX1 behind its packets, up to completion. -/
theorem bytePhases_withReads (s : State) :
    (complete true (closeRow (tailPhase (bulkPhase s)))).sameButReads
      (complete true (closeRow (tailPhase (bulkPhase (s.withReads script draws))))) := by
  rw [bytePhases_eq, bytePhases_eq]
  refine ⟨?_, by simp [complete, State.withReads]⟩
  simp only [complete_trace, List.map_append, map_request_bulkTrace, map_request_tailTrace, map_request_closeTrace]
  rfl

/-- TX1 from its acceptance on: both runs send all packets, or both lose the same one. -/
theorem runTx1_withReads (s : State) : (runTx1 s).sameButReads (runTx1 (s.withReads script draws)) := by
  have hreads := sendPackets_withReads script draws tx1Packets s
  rcases hs : sendPackets tx1Packets s with ⟨ok, u⟩
  rw [hs] at hreads
  cases ok with
  | true =>
    rw [runTx1_of_sent hs, runTx1_of_sent hreads]
    exact bytePhases_withReads script draws u
  | false =>
    rw [runTx1_of_lost hs, runTx1_of_lost hreads]
    exact State.sameButReads_withReads script draws u

end

/-- Settles O35: acceptance leaves the link layer alone, so the two runs differ only in the answers to reads. -/
theorem tx1IgnoresMissedAcknowledgements : Obligations.Tx1IgnoresMissedAcknowledgements := by
  intro s t u script draws ht hu
  cases ht
  cases hu
  exact runTx1_withReads script draws (accept .tx1 s)

end Sys2Proof.Machine
end

section
/-! The two-pass transmitter (O36 to O38): the state in which the thirteen data packets are sent and the terminator packet is
loaded, the three ends of TX2 from it, and from them the transactions, the end state and the payload of TX2. -/

namespace Sys2Proof.Machine

/-! ### One read after the packets (R194) -/

theorem linkReadWait_trace_arrives (ms : Nat) (s : State) :
    (linkReadWait ms s).trace = s.trace ++ [.readWait ms (s.arrives 0)] := by
  rw [linkReadWait_trace, LinkLayer.nextRead_fst, State.arrives]

/-- A read that times out leaves RXB alone (R22). -/
theorem linkReadWait_rxb_of_not_arrives (ms : Nat) {s : State} (h : s.arrives 0 = false) :
    (linkReadWait ms s).rxb = s.rxb := by
  rw [linkReadWait_rxb, LinkLayer.nextRead_fst, Option.isNone_iff_eq_none.1 (Option.isSome_eq_false_iff.1 h)]
  rfl

theorem State.arrives_afterSuccess (f a n : Nat) (s : State) : (s.afterSuccess f a).arrives n = s.arrives n :=
  congrArg Option.isSome (LinkLayer.readAnswer_afterSends (f + 1) n s.link)

/-- What a loaded packet that fails `f` times and then succeeds, and one read behind it, leave together. -/
theorem readAfterPacket_registers (ms f : Nat) (s : State) :
    ∃ t, linkReadWait ms (s.afterSuccess f (f + 1)) = t ∧ t.ops = s.ops ∧ t.einfo = s.einfo ∧ t.txb = s.txb
      ∧ t.txlen = s.txlen ∧ t.pkt = s.pkt ∧ t.idx = s.idx ∧ t.att = BitVec.ofNat 4 (f + 1)
      ∧ (s.arrives 0 = false → t.rxb = s.rxb)
      ∧ t.trace = s.trace ++ packetTrace s.params.cmdPrintSendBytes s.txlen s.txPayload f ++ [.readWait ms (s.arrives 0)] := by
  have harrives := s.arrives_afterSuccess f (f + 1) 0
  refine ⟨_, rfl, linkReadWait_ops _ _, linkReadWait_einfo _ _, linkReadWait_txb _ _, linkReadWait_txlen _ _,
    linkReadWait_pkt _ _, linkReadWait_idx _ _, linkReadWait_att _ _, fun hnone => ?_, ?_⟩
  · rw [linkReadWait_rxb_of_not_arrives ms (harrives.trans hnone), State.afterSuccess_rxb]
  · rw [linkReadWait_trace_arrives, harrives, State.afterSuccess_trace]

/-! ### The three ends of TX2 (R191, R195) -/

section
variable {plane : Plane} {s u v : State}

theorem runTx2_of_sent (h : sendPackets (List.finRange 13) s = (true, u))
    (hterm : sendPacketRetry (loadTerminator plane u) = (true, v)) :
    runTx2 plane s = complete true (linkReadWait Config.tAck v) := by
  simp [runTx2, h, hterm]

theorem runTx2_of_lostTerminator (h : sendPackets (List.finRange 13) s = (true, u))
    (hterm : sendPacketRetry (loadTerminator plane u) = (false, v)) : runTx2 plane s = raiseTimeout v := by
  simp [runTx2, h, hterm]

theorem runTx2_of_lost (h : sendPackets (List.finRange 13) s = (false, u)) : runTx2 plane s = u := by
  simp [runTx2, h]

end

theorem execTx2_sameForTransmit (plane : Plane) (s : State) : s.sameForTransmit (runTx2 plane (accept (.tx2 plane) s)) :=
  State.sameForTransmit.trans ⟨rfl, rfl, rfl, accept_sameSurroundings (.tx2 plane) s⟩ (runTx2_end plane _).sameForTransmit

/-! ### The terminator packet, loaded behind the data packets -/

/-- The state `v` is what TX2 reaches from `s` when its data packets fail `fs[0]`, `fs[1]`, ... times and succeed, and the
terminator packet of the plane is loaded (R193). -/
structure State.TerminatorLoaded (plane : Plane) (fs : List Nat) (s v : State) : Prop where
  trace_eq : v.trace = s.trace ++ dataTrace s.params.cmdPrintSendBytes s.rb 0 fs
  txb_eq : v.txb.toList = terminatorData s.rb plane ++ (packetData s.rb 12).drop (terminatorData s.rb plane).length
  txlen_eq : v.txlen = terminatorLength plane
  txPayload_eq : v.txPayload = terminatorData s.rb plane
  pkt_eq : v.pkt = 13
  arrives_eq : v.arrives = s.arrives
  only : s.onlyPackets v

theorem finRange_eq_packetsFrom {n : Nat} (hn : n ≤ 13) :
    List.finRange 13 = packetsFrom 0 n ++ packetsFrom n (13 - n) := by
  have hall : List.finRange 13 = packetsFrom 0 13 := by decide
  have hsplit := packetsFrom_append 0 n (13 - n)
  rw [Nat.add_sub_cancel' hn, Nat.zero_add] at hsplit
  exact hall.trans hsplit

/-- The thirteen data packets sent, the answers `rest` are still to come for the terminator packet. -/
theorem sendPackets_terminatorLoaded (plane : Plane) {s : State} {fs : List Nat} {rest : List Bool} (hlen : fs.length = 13)
    (hw : withinRetries fs) (h : s.sendsAnswered (packetAnswers fs ++ rest)) :
    ∃ u, sendPackets (List.finRange 13) s = (true, u) ∧ (loadTerminator plane u).sendsAnswered rest
      ∧ State.TerminatorLoaded plane fs s (loadTerminator plane u) := by
  obtain ⟨u, hsend, htrace, hrest, hread, -, hregs, honly⟩ :=
    sendPackets_success fs 0 (packetsFrom fs.length (13 - fs.length)) s rest (by omega) hw h
  rw [← finRange_eq_packetsFrom (by omega), hlen] at hsend
  obtain ⟨htxb, -⟩ := hregs (by rintro rfl; simp at hlen)
  rw [hlen] at htxb
  obtain ⟨-, hrb, -⟩ := State.onlyPackets_congr honly
  exact ⟨u, hsend, (sendsAnswered_congr rfl _).2 hrest, {
    trace_eq := htrace
    txb_eq := by rw [loadTerminator_txb, terminatorBytes_toList, hrb, htxb]
    txlen_eq := rfl
    txPayload_eq := by rw [txPayload_loadTerminator, hrb]
    pkt_eq := rfl
    arrives_eq := funext fun n => congrArg Option.isSome (hread n)
    only := honly.trans (loadTerminator_onlyPackets plane u) }⟩

/-! ### TX2 (R191) -/

/-- Settles O36: the thirteen packets, then the terminator packet's own success, then the one read. -/
theorem tx2SendsThePlane : Obligations.Tx2SendsThePlane := by
  intro plane s fs f hlen hw hf h
  obtain ⟨u, hsend, hanswered, hloaded⟩ :=
    sendPackets_terminatorLoaded plane (s := accept (.tx2 plane) s) hlen hw ((sendsAnswered_congr rfl _).2 h)
  have hrun := runTx2_of_sent hsend (sendPacketRetry_success hf hanswered)
  generalize loadTerminator plane u = v at hloaded hrun
  obtain ⟨hparams, -, hrxb, -, hops, -, -, hidx, -, heinfo, -⟩ := State.onlyPackets_congr hloaded.only
  obtain ⟨t, hread, hops', heinfo', htxb', htxlen', hpkt', hidx', hatt', hrxb', htrace'⟩ :=
    readAfterPacket_registers Config.tAck f v
  rw [hread] at hrun
  have harrives : v.arrives 0 = s.arrives 0 := congrFun hloaded.arrives_eq 0
  refine ⟨complete true t, congrArg Host.Outcome.next hrun, complete_succeeded (hops'.trans hops) (heinfo'.trans heinfo), ?_,
    (congrArg Vector.toList htxb').trans hloaded.txb_eq, htxlen'.trans hloaded.txlen_eq, hpkt'.trans hloaded.pkt_eq, hatt',
    hidx'.trans hidx, fun hnone => (hrxb' (harrives.trans hnone)).trans hrxb, hrun ▸ execTx2_sameForTransmit plane s⟩
  rw [complete_trace, htrace', harrives, hloaded.trace_eq, hloaded.txlen_eq, hloaded.txPayload_eq, hparams]
  rfl

/-- Settles O37: at a data packet, the packet loop's own end is the end of TX2; at the terminator packet, the raise behind the
exhausted wrapper is. -/
theorem tx2StopsAtTheExhaustedPacket : Obligations.Tx2StopsAtTheExhaustedPacket := by
  intro plane s fs hw h
  have haccepted : (accept (.tx2 plane) s).sendsAnswered (packetAnswers fs ++ List.replicate 10 false) :=
    (sendsAnswered_congr rfl _).2 h
  refine ⟨fun hlen => ?_, fun hlen => ?_⟩
  · obtain ⟨u, hsend, htrace, htxb, htxlen, hpkt, hatt, honly⟩ :=
      sendPackets_exhausted fs 0 (packetsFrom (fs.length + 1) (13 - (fs.length + 1))) _ (by omega) hw haccepted
    rw [← finRange_eq_packetsFrom (by omega)] at hsend
    rw [Nat.zero_add] at htrace htxb hpkt
    obtain ⟨-, -, hrxb, -, hops, -, -, hidx, -⟩ := State.onlyPackets_congr honly
    have hrun := runTx2_of_lost (plane := plane) hsend
    exact ⟨raiseTimeout u, congrArg Host.Outcome.next hrun, raiseTimeout_timedOut hops hpkt (by omega), htrace, htxb, htxlen,
      hatt, hidx, hrxb, hrun ▸ execTx2_sameForTransmit plane s⟩
  · obtain ⟨u, hsend, hanswered, hloaded⟩ := sendPackets_terminatorLoaded plane hlen hw haccepted
    have hrun := runTx2_of_lostTerminator hsend (sendPacketRetry_exhausted hanswered)
    generalize loadTerminator plane u = v at hloaded hrun
    obtain ⟨hparams, -, hrxb, -, hops, -, -, hidx, -⟩ := State.onlyPackets_congr hloaded.only
    refine ⟨raiseTimeout v.afterExhaustion, congrArg Host.Outcome.next hrun,
      raiseTimeout_timedOut hops hloaded.pkt_eq (by omega), ?_, hloaded.txb_eq, hloaded.txlen_eq, rfl, hidx, hrxb,
      hrun ▸ execTx2_sameForTransmit plane s⟩
    rw [raiseTimeout_trace, State.afterExhaustion_trace, hloaded.trace_eq, hloaded.txlen_eq, hloaded.txPayload_eq, hparams]
    rfl

/-! ### The payload of TX2 (R197) -/

/-- The bytes behind RB[156..159] in a plane's terminator packet (R105). -/
def lineEnd : Plane → List Byte
  | .plane0 => [0x0D]
  | .plane1 => [0x0D, 0x0A]

theorem terminatorData_eq (rb : Vector Byte 160) (plane : Plane) :
    terminatorData rb plane = rb.toList.drop 156 ++ lineEnd plane := by
  cases plane <;> rfl

/-- The payload of a TX2 that completes is the whole of RB, split between data packets and terminator packet at byte 156, and
the plane's line end. -/
theorem payload_tx2 {fs : List Nat} (hlen : fs.length = 13) (c l : Byte) (rb : Vector Byte 160) (plane : Plane) (f ms : Nat)
    (a : Bool) :
    payload (dataTrace c rb 0 fs ++ (packetTrace c l (terminatorData rb plane) f ++ [.readWait ms a]))
      = rb.toList ++ lineEnd plane := by
  have hread : payload [.readWait ms a] = [] := rfl
  rw [payload_append, payload_append, payload_dataTrace, payload_packetTrace, hread, hlen, terminatorData_eq, List.append_nil,
    ← List.append_assoc]
  exact congrArg (· ++ _) (List.take_append_drop 156 rb.toList)

/-- The payload up to an exhausted packet is the data packets before it. -/
theorem payload_lostPacket (c c' l : Byte) (rb : Vector Byte 160) (fs : List Nat) (d : List Byte) (b : Bool) :
    payload (dataTrace c rb 0 fs ++ exhaustedTrace c' l d b) = rb.toList.take (12 * fs.length) := by
  rw [payload_append, payload_dataTrace, payload_exhaustedTrace, List.append_nil]
  rfl

theorem packetAnswers_concat (fs : List Nat) (f : Nat) :
    packetAnswers (fs ++ [f]) = packetAnswers fs ++ failsThenSucceeds f := by
  simp [packetAnswers]

/-- Settles O38: whatever the link answers, the fourteen packets all succeed, or one of them, a data packet or the terminator
packet, is the first to exhaust its retries. -/
theorem tx2PayloadIsThePlaneOrAPrefix : Obligations.Tx2PayloadIsThePlaneOrAPrefix := by
  intro plane s
  rcases packets_cases 14 s with ⟨all, hlen, hw, h⟩ | ⟨fs, hlen, hw, h⟩
  · obtain ⟨fs, f, rfl⟩ := List.eq_nil_or_concat' all |>.resolve_left (by rintro rfl; simp at hlen)
    rw [packetAnswers_concat] at h
    have hlen' : fs.length = 13 := by simpa using hlen
    obtain ⟨t, hexec, hdone, htrace, -, -, -, -, -, -, hsame⟩ :=
      tx2SendsThePlane plane s fs f hlen' (fun g hg => hw g (by simp [hg])) (hw f (by simp)) h
    rw [List.append_assoc, List.append_assoc] at htrace
    refine ⟨t, _, hexec, htrace, hsame, .inl ⟨hdone, payload_tx2 hlen' .., ?_⟩⟩
    rw [payload_tx2 hlen']
    cases plane <;> simp [lineEnd]
  · obtain ⟨hdata, hterminator⟩ := tx2StopsAtTheExhaustedPacket plane s fs hw h
    by_cases hlast : fs.length = 13
    · obtain ⟨t, hexec, hlost, htrace, -, -, -, -, -, hsame⟩ := hterminator hlast
      rw [List.append_assoc] at htrace
      exact ⟨t, _, hexec, htrace, hsame, .inr ⟨13, le_rfl, hlost, hlast ▸ payload_lostPacket ..⟩⟩
    · obtain ⟨t, hexec, hlost, htrace, -, -, -, -, -, hsame⟩ := hdata (by omega)
      rw [List.append_assoc] at htrace
      exact ⟨t, _, hexec, htrace, hsame, .inr ⟨fs.length, by omega, hlost, payload_lostPacket ..⟩⟩

end Sys2Proof.Machine
end

section
/-! The answer to TX2's one read (O39): the packets before it take none, and the read passes it on to RXB and to the recorded
arrival only. -/

namespace Sys2Proof.Machine

section
variable (script : List (Option Byte)) (draws : Nat)

/-- The retry wrapper takes no answer to a read. -/
theorem sendPacketRetry_withReads (s : State) :
    sendPacketRetry (s.withReads script draws)
      = ((sendPacketRetry s).1, (sendPacketRetry s).2.withReads script draws) := by
  rcases sendPacketRetry_cases s with ⟨f, hf, h, hsent⟩ | ⟨h, hlost⟩
  · rw [hsent, sendPacketRetry_success hf ((sendsAnswered_withReads script draws s _).2 h)]
    simp only [State.afterSuccess, State.withReads, State.setLink, LinkLayer.afterSends_withReads]
    rfl
  · rw [hlost, sendPacketRetry_exhausted ((sendsAnswered_withReads script draws s _).2 h)]
    simp only [State.afterExhaustion, State.withReads, State.setLink, LinkLayer.afterSends_withReads]
    rfl

/-- A read that ends a command. -/
theorem completeAfterRead_withReads (ms : Nat) (s : State) :
    (complete true (linkReadWait ms s)).sameButReads (complete true (linkReadWait ms (s.withReads script draws))) := by
  rw [linkReadWait_eq, linkReadWait_eq]
  exact ⟨by simp [Event.request, State.withReads], rfl⟩

/-- TX2 from its acceptance on: both runs come to the same one of its three ends. -/
theorem runTx2_withReads (plane : Plane) (s : State) :
    (runTx2 plane s).sameButReads (runTx2 plane (s.withReads script draws)) := by
  have hreads := sendPackets_withReads script draws (List.finRange 13) s
  rcases hs : sendPackets (List.finRange 13) s with ⟨ok, u⟩
  rw [hs] at hreads
  cases ok with
  | false =>
    rw [runTx2_of_lost hs, runTx2_of_lost hreads]
    exact State.sameButReads_withReads script draws u
  | true =>
    have hreads' := sendPacketRetry_withReads script draws (loadTerminator plane u)
    rcases ht : sendPacketRetry (loadTerminator plane u) with ⟨ok, v⟩
    rw [ht] at hreads'
    cases ok with
    | false =>
      rw [runTx2_of_lostTerminator hs ht, runTx2_of_lostTerminator hreads hreads']
      exact State.sameButReads_withReads script draws (raiseTimeout v)
    | true =>
      rw [runTx2_of_sent hs ht, runTx2_of_sent hreads hreads']
      exact completeAfterRead_withReads script draws Config.tAck v

end

/-- Settles O39: acceptance leaves the link layer alone, so the two runs differ only in the answers to reads. -/
theorem tx2IgnoresAMissedAcknowledgement : Obligations.Tx2IgnoresAMissedAcknowledgement := by
  intro plane s t u script draws ht hu
  cases ht
  cases hu
  exact runTx2_withReads script draws plane (accept (.tx2 plane) s)

end Sys2Proof.Machine
end

section
/-! The frame of a job: the query, the snapshot and mask of IE, and its restore (O42 to O45). `PRINT_SCREEN` and the
coordinator's QUERYING move are each one of two: nothing behind a query that maps to FAIL, or the job from one masked state. -/

namespace Sys2Proof.Machine

/-! ### The query (R212) and the mask (R214) -/

theorem mapQuery_of_four_le {q : Byte} (h : 4 ≤ q.toNat) : mapQuery q = .fail := by
  unfold mapQuery
  split
  case h_1 hq | h_2 hq | h_3 hq => omega
  case h_4 => rfl

/-- Settles O42: four bytes evaluated, and the last case of the map for all others. -/
theorem queryResultsMapToPrinterTypes : Obligations.QueryResultsMapToPrinterTypes :=
  ⟨rfl, rfl, rfl, rfl, fun _ => mapQuery_of_four_le⟩

theorem testBit_maskVbl (ie mask n : Nat) : (maskVbl ie mask).testBit n = (ie.testBit n && !mask.testBit n) := by
  rw [maskVbl, Nat.testBit_xor, Nat.testBit_and]
  cases ie.testBit n <;> cases mask.testBit n <;> rfl

/-! ### The two ways of a job -/

/-- The state in which a job's rows begin: the query answered, IE masked (R211, R214). -/
def State.jobStart (s : State) : State :=
  (s.setLink s.link.nextQuery.2).setIe (maskVbl s.ie s.params.ieVblMask)

/-- The coordinator at the first row of a job for the printer `p`, with `ie` saved (R214, R224). -/
def Coordinator.begun (p : PrinterType) (ie : Nat) (h : Coordinator) : Coordinator :=
  { h with job := .preamble, printer := p, ieSaved := ie, todo := blankRowWords p, waiting := false, ok := false }

section
variable {s : State} {p : PrinterType}

theorem printScreen_of_fail (h : mapQuery s.link.nextQuery.1 = .fail) :
    printScreen s = (false, s.setLink s.link.nextQuery.2) := by
  simp only [printScreen, h]

theorem printScreen_of_printer (h : mapQuery s.link.nextQuery.1 = p) (hp : p ≠ .fail) :
    printScreen s = ((issueRows (jobRows p s.params.nTrailer) s.jobStart).1,
      (issueRows (jobRows p s.params.nTrailer) s.jobStart).2.setIe s.ie) := by
  cases p with
  | fail => exact absurd rfl hp
  | ok1Pass | ok2Pass => simp only [printScreen, h, State.jobStart]

theorem queryPrinter_of_fail (h : mapQuery s.link.nextQuery.1 = .fail) :
    queryPrinter s = (s.setLink s.link.nextQuery.2).setHost
      { s.host with job := .idle, printer := .fail, result := some false } := by
  simp only [queryPrinter, h]

theorem queryPrinter_of_printer (h : mapQuery s.link.nextQuery.1 = p) (hp : p ≠ .fail) :
    queryPrinter s = s.jobStart.setHost (s.host.begun p s.ie) := by
  cases p with
  | fail => exact absurd rfl hp
  | ok1Pass | ok2Pass => simp only [queryPrinter, h, State.jobStart, Coordinator.begun]

theorem hostStep_of_querying (h : s.host.job = .querying) : hostStep s = queryPrinter s := by
  simp only [hostStep, h]

end

/-- Settles O43: behind a query that maps to FAIL there is nothing but the query's own answer. -/
theorem noPrinterJobTouchesNothing : Obligations.NoPrinterJobTouchesNothing := by
  intro s h
  rw [printScreen_of_fail h]
  rfl

/-- Settles O44: the job's first state has the masked IE, whose bits are those of IE that the mask leaves. -/
theorem jobMasksTheVerticalBlank : Obligations.JobMasksTheVerticalBlank := by
  intro s hjob hp
  rw [hostStep_of_querying hjob, queryPrinter_of_printer rfl hp]
  exact ⟨rfl, rfl, testBit_maskVbl s.ie s.params.ieVblMask⟩

/-- Settles O45: the job's last act writes back the IE it began with, and without a printer IE is not written. -/
theorem jobRestoresTheInterruptMask : Obligations.JobRestoresTheInterruptMask := by
  intro s
  by_cases hp : mapQuery s.link.nextQuery.1 = .fail
  · rw [printScreen_of_fail hp, State.setLink_ie]
  · rw [printScreen_of_printer rfl hp, State.setIe_ie]

end Sys2Proof.Machine
end

section
/-! What a job that returns true costs (O46), and what a job on a dead link does (O47): each command's transactions, added up
over the words of a row and the rows of a job. -/

namespace Sys2Proof

/-- The payload bytes of a command that ends OK (R170, R197). -/
def Instr.payloadBytes : Instr → Nat
  | .clr => 0
  | .asm _ _ => 0
  | .tx1 => 166
  | .tx2 .plane0 => 161
  | .tx2 .plane1 => 162

/-- The row sleeps of a command that ends OK (R167). -/
def Instr.rowSleeps : Instr → Nat
  | .clr => 0
  | .asm _ _ => 0
  | .tx1 => 1
  | .tx2 _ => 0

end Sys2Proof

namespace Sys2Proof.Machine

/-! ### Issuing words (R209) -/

theorem exec_next (i : Instr) (s : State) : ∃ t, exec i s = .next t := by
  cases i <;> exact ⟨_, rfl⟩

theorem issue_of_exec {w : CmdWord} {i : Instr} {s t : State} (hdec : decode w = .ok i) (h : exec i s = .next t) :
    issue w s = (t.status.ok, t) := by
  simp only [issue, execWord_of_decode hdec, h]

theorem issueAll_cons_of_ok {w : CmdWord} {s : State} (ws : List CmdWord) (h : (issue w s).1 = true) :
    issueAll (w :: ws) s = issueAll ws (issue w s).2 := by
  simp only [issueAll, h, if_true]

theorem issueAll_cons_of_failed {w : CmdWord} {s : State} (ws : List CmdWord) (h : (issue w s).1 = false) :
    issueAll (w :: ws) s = (false, (issue w s).2) := by
  simp [issueAll, h]

theorem issueRows_cons_of_ok {row : List CmdWord} {s : State} (rows : List (List CmdWord))
    (h : (issueAll row s).1 = true) : issueRows (row :: rows) s = issueRows rows (issueAll row s).2 := by
  simp only [issueRows, h, if_true]

theorem issueRows_cons_of_failed {row : List CmdWord} {s : State} (rows : List (List CmdWord))
    (h : (issueAll row s).1 = false) : issueRows (row :: rows) s = (false, (issueAll row s).2) := by
  simp [issueRows, h]

/-! ### Costs -/

/-- The transactions between `s` and `t` carry `bytes` payload bytes and hold `sleeps` row sleeps of 1000 ms (R225). -/
def State.spends (bytes sleeps : Nat) (s t : State) : Prop :=
  ∃ es, t.trace = s.trace ++ es ∧ (payload es).length = bytes ∧ es.count (.sleep 1000) = sleeps

theorem State.spends_of_trace_eq {s t : State} (h : t.trace = s.trace) : s.spends 0 0 t :=
  ⟨[], by rw [h, List.append_nil], rfl, rfl⟩

theorem State.spends.trans {b c b' c' : Nat} {s t u : State} (hst : s.spends b c t) (htu : t.spends b' c' u) :
    s.spends (b + b') (c + c') u := by
  obtain ⟨es, htrace, hbytes, hsleeps⟩ := hst
  obtain ⟨es', htrace', hbytes', hsleeps'⟩ := htu
  exact ⟨es ++ es', by rw [htrace', htrace, List.append_assoc],
    by rw [payload_append, List.length_append, hbytes, hbytes'], by rw [List.count_append, hsleeps, hsleeps']⟩

/-! ### The row sleeps of a transmit command (R167): the packets' sleeps are of 1 ms -/

theorem count_rowSleep_packetTrace (c l : Byte) (d : List Byte) (f : Nat) :
    (packetTrace c l d f).count (.sleep 1000) = 0 := by
  refine List.count_eq_zero.2 fun h => ?_
  simp [packetTrace] at h

theorem count_rowSleep_dataTrace (c : Byte) (rb : Vector Byte 160) (fs : List Nat) (k : Nat) :
    (dataTrace c rb k fs).count (.sleep 1000) = 0 := by
  induction fs generalizing k with
  | nil => rfl
  | cons f fs ih => rw [dataTrace, List.count_append, count_rowSleep_packetTrace, ih]

theorem count_rowSleep_bulkTrace (a : Nat → Bool) (rb : Vector Byte 160) : (bulkTrace a rb).count (.sleep 1000) = 0 := by
  refine List.count_eq_zero.2 fun h => ?_
  simp [bulkTrace] at h

theorem count_rowSleep_tailTrace (a : Nat → Bool) : (tailTrace a).count (.sleep 1000) = 0 := rfl

theorem count_rowSleep_closeTrace (a : Nat → Bool) : (closeTrace a).count (.sleep 1000) = 1 := rfl

/-! ### The commands -/

/-- A transmit command that ends OK did not time out. -/
theorem State.timedOut.ok_eq_false {i : Instr} {k : Nat} {t : State} (h : t.timedOut i k) : t.status.ok = false := by
  obtain ⟨hstatus, -⟩ := h
  rw [hstatus]

/-- A TX1 that ends OK has had its four packets answered. -/
theorem tx1_answers_of_ok {s t : State} (h : exec .tx1 s = .next t) (hok : t.status.ok = true) :
    ∃ fs, fs.length = 4 ∧ withinRetries fs ∧ s.sendsAnswered (packetAnswers fs) := by
  rcases packets_cases 4 s with hsent | ⟨fs, hlen, hw, hlost⟩
  · exact hsent
  · obtain ⟨u, hexec, hout, -⟩ := tx1StopsAtTheExhaustedPacket s fs (by omega) hw hlost
    cases hexec.symm.trans h
    simp [hout.ok_eq_false] at hok

/-- A TX2 that ends OK has had its fourteen packets answered. -/
theorem tx2_answers_of_ok {plane : Plane} {s t : State} (h : exec (.tx2 plane) s = .next t) (hok : t.status.ok = true) :
    ∃ fs f, fs.length = 13 ∧ withinRetries fs ∧ f ≤ 9 ∧ s.sendsAnswered (packetAnswers fs ++ failsThenSucceeds f) := by
  rcases packets_cases 14 s with ⟨all, hlen, hw, hsent⟩ | ⟨fs, hlen, hw, hlost⟩
  · obtain ⟨fs, f, rfl⟩ := List.eq_nil_or_concat' all |>.resolve_left (by rintro rfl; simp at hlen)
    exact ⟨fs, f, by simpa using hlen, fun g hg => hw g (by simp [hg]), hw f (by simp),
      packetAnswers_concat fs f ▸ hsent⟩
  · obtain ⟨hdata, hterminator⟩ := tx2StopsAtTheExhaustedPacket plane s fs hw hlost
    have hout : ∃ k, t.timedOut (.tx2 plane) k := by
      by_cases hlast : fs.length = 13
      · obtain ⟨u, hexec, hout, -⟩ := hterminator hlast
        cases hexec.symm.trans h
        exact ⟨_, hout⟩
      · obtain ⟨u, hexec, hout, -⟩ := hdata (by omega)
        cases hexec.symm.trans h
        exact ⟨_, hout⟩
    obtain ⟨k, hout⟩ := hout
    simp [hout.ok_eq_false] at hok

theorem length_planePayload (rb : Vector Byte 160) (plane : Plane) :
    (rb.toList ++ lineEnd plane).length = (Instr.tx2 plane).payloadBytes := by
  cases plane <;> simp [lineEnd, Instr.payloadBytes]

/-- What a command that ends OK costs. -/
theorem exec_spends {i : Instr} {s t : State} (h : exec i s = .next t) (hok : t.status.ok = true) :
    s.spends i.payloadBytes i.rowSleeps t := by
  cases i with
  | clr =>
    cases h
    exact State.spends_of_trace_eq rfl
  | asm row psel =>
    cases h
    exact State.spends_of_trace_eq (by simp)
  | tx1 =>
    obtain ⟨fs, hlen, hw, hsent⟩ := tx1_answers_of_ok h hok
    obtain ⟨u, hexec, -, htrace, -⟩ := tx1SendsTheRow s fs hlen hw hsent
    cases hexec.symm.trans h
    simp only [List.append_assoc] at htrace
    refine ⟨_, htrace, ?_, ?_⟩
    · have hpayload := payload_tx1 hlen s.params.cmdPrintSendBytes s.rb s.arrives
      simp only [List.append_assoc] at hpayload
      rw [hpayload]
      simp [Instr.payloadBytes]
    · simp only [List.count_append, count_rowSleep_dataTrace, count_rowSleep_bulkTrace, count_rowSleep_tailTrace,
        count_rowSleep_closeTrace, Instr.rowSleeps]
  | tx2 plane =>
    obtain ⟨fs, f, hlen, hw, hf, hsent⟩ := tx2_answers_of_ok h hok
    obtain ⟨u, hexec, -, htrace, -⟩ := tx2SendsThePlane plane s fs f hlen hw hf hsent
    cases hexec.symm.trans h
    simp only [List.append_assoc] at htrace
    refine ⟨_, htrace, ?_, ?_⟩
    · rw [payload_tx2 hlen, length_planePayload]
    · simp only [List.count_append, count_rowSleep_dataTrace, count_rowSleep_packetTrace, Instr.rowSleeps]
      rfl

/-! ### The words of a row -/

/-- What the words of commands cost when all of them succeed. -/
theorem issueAll_spends (is : List Instr) (s : State) (hwf : ∀ i ∈ is, i.wellFormed = true)
    (hok : (issueAll (is.map encode) s).1 = true) :
    s.spends (is.map Instr.payloadBytes).sum (is.map Instr.rowSleeps).sum (issueAll (is.map encode) s).2 := by
  induction is generalizing s with
  | nil => exact State.spends_of_trace_eq rfl
  | cons i is ih =>
    rw [List.forall_mem_cons] at hwf
    obtain ⟨t, hexec⟩ := exec_next i s
    have hissue := issue_of_exec (decodeReadsBackEveryCommand i hwf.1) hexec
    cases hst : t.status.ok with
    | true =>
      simp only [List.map_cons, List.sum_cons]
      rw [List.map_cons, issueAll_cons_of_ok _ (by rw [hissue, hst]), hissue] at hok
      rw [issueAll_cons_of_ok _ (by rw [hissue, hst]), hissue]
      exact (exec_spends hexec hst).trans (ih t hwf.2 hok)
    | false =>
      rw [List.map_cons, issueAll_cons_of_failed _ (by rw [hissue, hst])] at hok
      cases hok

/-- The payload bytes of one row on each type of printer (R225). -/
def PrinterType.rowBytes : PrinterType → Nat
  | .fail => 0
  | .ok1Pass => 166
  | .ok2Pass => 323

/-- The row sleeps of one row on each type of printer (R225). -/
def PrinterType.rowSleeps : PrinterType → Nat
  | .fail => 0
  | .ok1Pass => 1
  | .ok2Pass => 0

/-- The words `ws` are those of well-formed commands that cost one row of the printer `p`. -/
def PrinterType.rowOf (p : PrinterType) (ws : List CmdWord) : Prop :=
  ∃ is : List Instr, ws = is.map encode ∧ (∀ i ∈ is, i.wellFormed = true)
    ∧ (is.map Instr.payloadBytes).sum = p.rowBytes ∧ (is.map Instr.rowSleeps).sum = p.rowSleeps

theorem blankRowWords_rowOf (p : PrinterType) : p.rowOf (blankRowWords p) := by
  cases p with
  | fail => exact ⟨[], rfl, by simp, rfl, rfl⟩
  | ok1Pass => exact ⟨[.clr, .tx1], rfl, by simp [Instr.wellFormed], rfl, rfl⟩
  | ok2Pass => exact ⟨[.clr, .tx2 .plane0, .tx2 .plane1], rfl, by simp [Instr.wellFormed], rfl, rfl⟩

theorem rowWords_rowOf {r : Nat} (hr : r ≤ 17) (p : PrinterType) : p.rowOf (rowWords r p) := by
  have hasm (psel : PlaneSel) : (Instr.asm (BitVec.ofNat 5 r) psel).wellFormed = true := by
    simp only [Instr.wellFormed, BitVec.toNat_ofNat, decide_eq_true_eq]
    omega
  have htx1 : Instr.tx1.wellFormed = true := rfl
  have htx2 (plane : Plane) : (Instr.tx2 plane).wellFormed = true := rfl
  cases p with
  | fail => exact ⟨[], rfl, by simp, rfl, rfl⟩
  | ok1Pass => exact ⟨[.asm _ .both, .tx1], rfl, by simp [hasm, htx1], rfl, rfl⟩
  | ok2Pass =>
    exact ⟨[.asm _ .plane0, .tx2 .plane0, .asm _ .plane1, .tx2 .plane1], rfl, by simp [hasm, htx2], rfl, rfl⟩

/-! ### The rows of a job -/

theorem jobRows_rowOf {p : PrinterType} {n : Nat} : ∀ row ∈ jobRows p n, p.rowOf row := by
  intro row hrow
  simp only [jobRows, List.cons_append, List.mem_cons, List.mem_append, List.mem_map, List.mem_range,
    List.mem_replicate] at hrow
  rcases hrow with rfl | ⟨r, hr, rfl⟩ | ⟨-, rfl⟩
  · exact blankRowWords_rowOf p
  · exact rowWords_rowOf (by omega) p
  · exact blankRowWords_rowOf p

theorem length_jobRows (p : PrinterType) (n : Nat) : (jobRows p n).length = 19 + n := by
  simp only [jobRows, List.cons_append, List.length_cons, List.length_append, List.length_map, List.length_range,
    List.length_replicate]
  omega

theorem issueRows_spends {p : PrinterType} (rows : List (List CmdWord)) (s : State) (hrows : ∀ row ∈ rows, p.rowOf row)
    (hok : (issueRows rows s).1 = true) :
    s.spends (p.rowBytes * rows.length) (p.rowSleeps * rows.length) (issueRows rows s).2 := by
  induction rows generalizing s with
  | nil => exact State.spends_of_trace_eq rfl
  | cons row rows ih =>
    rw [List.forall_mem_cons] at hrows
    obtain ⟨⟨is, rfl, hwf, hbytes, hsleeps⟩, hrest⟩ := hrows
    cases hrow : (issueAll (is.map encode) s).1 with
    | true =>
      rw [issueRows_cons_of_ok _ hrow] at hok ⊢
      have hcost := (issueAll_spends is s hwf hrow).trans (ih _ hrest hok)
      rwa [hbytes, hsleeps, Nat.add_comm, ← Nat.mul_succ, Nat.add_comm, ← Nat.mul_succ] at hcost
    | false =>
      rw [issueRows_cons_of_failed _ hrow] at hok
      cases hok

/-- Settles O46: the query, the mask and the restore make no transaction, and each of the job's 19 + N_TRAILER rows costs what a
row of its printer does. -/
theorem successfulJobCounts : Obligations.SuccessfulJobCounts := by
  intro s hok
  cases hp : mapQuery s.link.nextQuery.1 with
  | fail =>
    rw [printScreen_of_fail hp] at hok
    cases hok
  | ok1Pass =>
    rw [printScreen_of_printer hp (by simp)] at hok ⊢
    obtain ⟨es, htrace, hbytes, hsleeps⟩ := issueRows_spends _ _ jobRows_rowOf hok
    rw [length_jobRows] at hbytes hsleeps
    exact ⟨es, htrace, .inl ⟨rfl, hbytes, hsleeps.trans (Nat.one_mul _)⟩⟩
  | ok2Pass =>
    rw [printScreen_of_printer hp (by simp)] at hok ⊢
    obtain ⟨es, htrace, hbytes, hsleeps⟩ := issueRows_spends _ _ jobRows_rowOf hok
    rw [length_jobRows] at hbytes hsleeps
    exact ⟨es, htrace, .inr ⟨rfl, hbytes, hsleeps.trans (Nat.zero_mul _)⟩⟩

/-! ### A dead link (R226) -/

theorem packetData_blank : packetData (Vector.replicate 160 0) 0 = List.replicate 12 0x00 := by
  simp [packetData]

/-- A transmit command on the blank row, at whose first packet ten attempts fail (R168, R195). -/
theorem exec_deadLink {i : Instr} {s : State} (hi : i = .tx1 ∨ ∃ plane, i = .tx2 plane)
    (hrb : s.rb = Vector.replicate 160 0) (h : s.sendsAnswered (List.replicate 10 false)) :
    ∃ t, exec i s = .next t ∧ t.timedOut i 0 ∧ t.rb = Vector.replicate 160 0
      ∧ t.trace = s.trace
          ++ exhaustedTrace s.params.cmdPrintSendBytes 12 (List.replicate 12 0x00) s.params.retrySleepAfterLast := by
  have hw : withinRetries [] := by simp [withinRetries]
  rcases hi with rfl | ⟨plane, rfl⟩
  · obtain ⟨t, hexec, hout, htrace, -, -, -, -, -, hrb', -⟩ := tx1StopsAtTheExhaustedPacket s [] (by simp) hw h
    rw [dataTrace, List.append_nil, hrb, List.length_nil, packetData_blank] at htrace
    exact ⟨t, hexec, hout, hrb'.trans hrb, htrace⟩
  · obtain ⟨hdata, -⟩ := tx2StopsAtTheExhaustedPacket plane s [] hw h
    obtain ⟨t, hexec, hout, htrace, -, -, -, -, -, hrb', -⟩ := hdata (by simp)
    rw [dataTrace, List.append_nil, hrb, List.length_nil, packetData_blank] at htrace
    exact ⟨t, hexec, hout, hrb'.trans hrb, htrace⟩

/-- The blank row is a CLR and a transmit command behind it (R216, R217). -/
theorem blankRowWords_eq {p : PrinterType} (hp : p ≠ .fail) :
    ∃ i ws, blankRowWords p = encode .clr :: encode i :: ws ∧ i.wellFormed = true
      ∧ (i = .tx1 ∨ ∃ plane, i = .tx2 plane) := by
  cases p with
  | fail => exact absurd rfl hp
  | ok1Pass => exact ⟨.tx1, [], rfl, rfl, .inl rfl⟩
  | ok2Pass => exact ⟨.tx2 .plane0, [encode (.tx2 .plane1)], rfl, rfl, .inr ⟨.plane0, rfl⟩⟩

/-- The leading blank row on a dead link. -/
theorem issueAll_blankRow_deadLink {p : PrinterType} {s : State} (hp : p ≠ .fail)
    (h : s.sendsAnswered (List.replicate 10 false)) :
    ∃ t, issueAll (blankRowWords p) s = (false, t) ∧ t.status.word = 0x0A ∧ t.einfo = 0 ∧ t.rb = Vector.replicate 160 0
      ∧ t.trace = s.trace
          ++ exhaustedTrace s.params.cmdPrintSendBytes 12 (List.replicate 12 0x00) s.params.retrySleepAfterLast := by
  obtain ⟨i, ws, hwords, hwf, hi⟩ := blankRowWords_eq hp
  have hclr := issue_of_exec (w := encode .clr) (i := .clr) (s := s) rfl rfl
  obtain ⟨t, hexec, hout, hrb, htrace⟩ :=
    exec_deadLink (s := (issue (encode .clr) s).2) hi (by rw [hclr]; rfl) ((sendsAnswered_congr (by rw [hclr]; rfl) _).2 h)
  have hissue := issue_of_exec (decodeReadsBackEveryCommand i hwf) hexec
  obtain ⟨hstatus, heinfo, -⟩ := id hout
  refine ⟨t, ?_, by rw [hstatus]; rfl, heinfo, hrb, by rw [htrace, hclr]; rfl⟩
  rw [hwords, issueAll_cons_of_ok _ (by rw [hclr]; rfl),
    issueAll_cons_of_failed _ (by rw [hissue, hout.ok_eq_false]), hissue]

/-- Settles O47: the leading blank row fails at its transmit command, no row follows it, and IE is restored. -/
theorem deadLinkEndsTheJobAfterTenAttempts : Obligations.DeadLinkEndsTheJobAfterTenAttempts := by
  intro s hp h
  have hstart : s.jobStart.sendsAnswered (List.replicate 10 false) :=
    (sendsAnswered_iff _ _).2 fun n hn =>
      (LinkLayer.sendAnswer_nextQuery s.link n).trans ((sendsAnswered_iff s _).1 h n hn)
  obtain ⟨t, hrow, hstatus, heinfo, hrb, htrace⟩ := issueAll_blankRow_deadLink hp hstart
  have hjob : issueRows (jobRows (mapQuery s.link.nextQuery.1) s.params.nTrailer) s.jobStart = (false, t) := by
    rw [jobRows, List.cons_append, issueRows_cons_of_failed _ (by rw [hrow]), hrow]
  refine ⟨t.setIe s.ie, ?_, rfl, htrace, hstatus, heinfo, hrb⟩
  rw [printScreen_of_printer rfl hp, hjob]

end Sys2Proof.Machine
end

section
/-! The coordinator against `PRINT_SCREEN` (O48). The commands neither read nor write the coordinator, so the machine's state
in a job is the sequential one with the coordinator's variables put in; each word, each row and the rows of a job then lead
from one such state to the next. -/

namespace Sys2Proof.Machine

/-! ### The commands pass the coordinator by -/

section
variable (h : Coordinator)

theorem assembleTiles_setHost (r : Nat) (psel : PlaneSel) (ts : List (Fin 20)) (s : State) :
    ts.foldl (assembleTile r psel) (s.setHost h) = (ts.foldl (assembleTile r psel) s).setHost h := by
  induction ts generalizing s with
  | nil => rfl
  | cons t ts ih => exact ih (assembleTile r psel s t)

theorem sendsAnswered_setHost (s : State) (as : List Bool) : (s.setHost h).sendsAnswered as ↔ s.sendsAnswered as := Iff.rfl

theorem sendPacketRetry_setHost (s : State) :
    sendPacketRetry (s.setHost h) = ((sendPacketRetry s).1, (sendPacketRetry s).2.setHost h) := by
  rcases sendPacketRetry_cases s with ⟨f, hf, hans, hsent⟩ | ⟨hans, hlost⟩
  · rw [hsent, sendPacketRetry_success hf ((sendsAnswered_setHost h s _).2 hans)]
    rfl
  · rw [hlost, sendPacketRetry_exhausted ((sendsAnswered_setHost h s _).2 hans)]
    rfl

theorem sendPackets_setHost (ks : List (Fin 13)) (s : State) :
    sendPackets ks (s.setHost h) = ((sendPackets ks s).1, (sendPackets ks s).2.setHost h) := by
  induction ks generalizing s with
  | nil => rfl
  | cons k ks ih =>
    rcases sendsAnswered_cases 10 s with ⟨f, hf, hans⟩ | hans
    · rw [sendPackets_cons_success k ks s f (by omega) hans,
        sendPackets_cons_success k ks _ f (by omega) ((sendsAnswered_setHost h s _).2 hans)]
      exact ih (s.afterPacket k f)
    · rw [sendPackets_cons_exhausted k ks s hans,
        sendPackets_cons_exhausted k ks _ ((sendsAnswered_setHost h s _).2 hans)]
      rfl

theorem arrives_setHost (s : State) : (s.setHost h).arrives = s.arrives := rfl

theorem bytePhases_setHost (s : State) :
    closeRow (tailPhase (bulkPhase (s.setHost h))) = (closeRow (tailPhase (bulkPhase s))).setHost h := by
  rw [bytePhases_eq, bytePhases_eq, arrives_setHost]
  simp only [State.setHost]

theorem runTx1_setHost (s : State) : runTx1 (s.setHost h) = (runTx1 s).setHost h := by
  have hhost := sendPackets_setHost h tx1Packets s
  rcases hs : sendPackets tx1Packets s with ⟨ok, u⟩
  rw [hs] at hhost
  cases ok with
  | true =>
    rw [runTx1_of_sent hs, runTx1_of_sent hhost, bytePhases_setHost]
    rfl
  | false => rw [runTx1_of_lost hs, runTx1_of_lost hhost]

theorem linkReadWait_setHost (ms : Nat) (s : State) : linkReadWait ms (s.setHost h) = (linkReadWait ms s).setHost h := rfl

theorem runTx2_setHost (plane : Plane) (s : State) : runTx2 plane (s.setHost h) = (runTx2 plane s).setHost h := by
  have hhost := sendPackets_setHost h (List.finRange 13) s
  rcases hs : sendPackets (List.finRange 13) s with ⟨ok, u⟩
  rw [hs] at hhost
  cases ok with
  | false => rw [runTx2_of_lost hs, runTx2_of_lost hhost]
  | true =>
    have hhost' := sendPacketRetry_setHost h (loadTerminator plane u)
    rcases ht : sendPacketRetry (loadTerminator plane u) with ⟨ok, v⟩
    rw [ht] at hhost'
    cases ok with
    | false =>
      rw [runTx2_of_lostTerminator hs ht, runTx2_of_lostTerminator hhost hhost']
      rfl
    | true =>
      rw [runTx2_of_sent hs ht, runTx2_of_sent hhost hhost', linkReadWait_setHost]
      rfl

theorem exec_setHost {i : Instr} {s t : State} (hexec : exec i s = .next t) :
    exec i (s.setHost h) = .next (t.setHost h) := by
  cases i with
  | clr =>
    cases hexec
    rfl
  | asm row psel =>
    cases hexec
    have hrow : assembleRow row.toNat psel ((accept (.asm row psel) s).setHost h)
        = (assembleRow row.toNat psel (accept (.asm row psel) s)).setHost h := assembleTiles_setHost h _ psel _ _
    exact congrArg (fun u => Host.Outcome.next (complete true u)) hrow
  | tx1 =>
    cases hexec
    exact congrArg Host.Outcome.next (runTx1_setHost h (accept .tx1 s))
  | tx2 plane =>
    cases hexec
    exact congrArg Host.Outcome.next (runTx2_setHost h plane (accept (.tx2 plane) s))

end

/-! ### A word, issued and presented (R39, R209) -/

/-- What an issued word leads to: the state `t` its execution answers, the engine idle again with DONE set. -/
structure State.Issued (w : CmdWord) (s t : State) : Prop where
  exec_eq : execWord w s = .next t
  issue_eq : issue w s = (t.status.ok, t)
  done : t.status.done = true
  phase : t.phase = .idle
  same : s.sameSurroundings t

theorem Status.done_of_word {st : Status} (h : st.word = 0x06 ∨ st.word = 0x0A) : st.done = true := by
  obtain ⟨busy, done, ok, err⟩ := st
  cases done with
  | true => rfl
  | false => revert busy ok err; decide

theorem exists_issued (w : CmdWord) (s : State) : ∃ t, s.Issued w t := by
  cases hdec : decode w with
  | error e =>
    have hexec : execWord w s = .next (raiseIllegal w s) := by simp only [execWord, hdec]
    exact ⟨_, hexec, by simp only [issue, hexec], rfl, rfl, by simp [State.sameSurroundings]⟩
  | ok i =>
    obtain ⟨t, hexec⟩ := exec_next i s
    obtain ⟨hphase, hstatus⟩ := commandEndsWithDoneStatus i s t hexec
    exact ⟨t, (execWord_of_decode hdec s).trans hexec, issue_of_exec hdec hexec,
      Status.done_of_word (hstatus.imp_right And.left), hphase, exec_sameSurroundings hexec⟩

theorem State.Issued.setHost {w : CmdWord} {s t : State} (ht : s.Issued w t) (h : Coordinator) :
    (s.setHost h).Issued w (t.setHost h) := by
  have hexec : execWord w (s.setHost h) = .next (t.setHost h) := by
    have hs := ht.exec_eq
    cases hdec : decode w with
    | error e =>
      simp only [execWord, hdec] at hs ⊢
      cases hs
      rfl
    | ok i =>
      rw [execWord_of_decode hdec] at hs ⊢
      exact exec_setHost h hs
  obtain ⟨hparams, hfb, hie, hqueue, -, hreset, hresets, hgrain⟩ := ht.same
  exact ⟨hexec, by simp only [issue, hexec], ht.done, ht.phase, hparams, hfb, hie, hqueue, rfl, hreset, hresets, hgrain⟩

/-! ### Runs of the machine -/

/-- Some number of steps of the machine leads from `s` to `t`. -/
def State.reaches (s t : State) : Prop := ∃ n, core.run n s = .next t

theorem State.reaches_refl (s : State) : s.reaches s := ⟨0, rfl⟩

theorem State.reaches.trans {s t u : State} (hst : s.reaches t) (htu : t.reaches u) : s.reaches u := by
  obtain ⟨m, hm⟩ := hst
  obtain ⟨n, hn⟩ := htu
  exact ⟨m + n, (run_add n hm).trans hn⟩

theorem State.reaches_of_step {s t : State} (h : step s = .next t) : s.reaches t := ⟨1, run_succ 0 h⟩

/-- The engine is idle, no word is presented and no reset event stands: the host's turn. -/
structure State.Ready (s : State) : Prop where
  reset : s.resetLine = false
  phase : s.phase = .idle
  queue : s.cmdQueue = []

theorem State.Ready.setHost {s : State} (hs : s.Ready) (h : Coordinator) : (s.setHost h).Ready :=
  ⟨hs.reset, hs.phase, hs.queue⟩

theorem State.Ready.reaches_hostStep {s : State} (hs : s.Ready) : s.reaches (hostStep s) :=
  State.reaches_of_step (step_host hs.reset hs.phase hs.queue)

theorem State.Issued.ready {w : CmdWord} {s t : State} (ht : s.Issued w t) (hs : s.Ready) : t.Ready := by
  obtain ⟨-, -, -, hqueue, -, hreset, -⟩ := ht.same
  exact ⟨hreset.trans hs.reset, ht.phase, hqueue.trans hs.queue⟩

/-- A presented word is run, in either grain: by one step, or by the rows of its command (O40). -/
theorem State.Issued.reaches {w : CmdWord} {s t : State} (ht : s.Issued w t) (hs : s.Ready) :
    (s.setQueue [w]).reaches t := by
  have htaken : (s.setQueue [w]).setQueue [] = s := congrArg (fun q => { s with cmdQueue := q }) hs.queue.symm
  cases hgrain : s.grain with
  | command =>
    have hstep := step_command (s := s.setQueue [w]) hs.reset hgrain hs.phase rfl
    rw [htaken] at hstep
    exact State.reaches_of_step (hstep.trans ht.exec_eq)
  | row =>
    have hexec := ht.exec_eq
    cases hdec : decode w with
    | error e =>
      have hstep := step_accept (s := s.setQueue [w]) hs.reset hgrain hs.phase rfl
      rw [htaken] at hstep
      simp only [execWord, hdec] at hexec
      cases hexec
      exact State.reaches_of_step (by simpa only [acceptWord, hdec] using hstep)
    | ok i =>
      obtain ⟨n, u, hexec', hrun, -⟩ :=
        sequencingTableRunsThePseudocode (s.setQueue [w]) w [] i hs.reset hgrain hs.phase rfl hdec
      rw [execWord_of_decode hdec] at hexec
      have hu : exec i s = .next u := (congrArg (exec i) htaken).symm.trans hexec'
      cases hexec.symm.trans hu
      exact ⟨n, hrun⟩

/-! ### Issued rows -/

/-- A sequential run of words leaves the host its turn, and what no command writes. -/
theorem issueAll_frame (ws : List CmdWord) {s : State} (hs : s.Ready) :
    (issueAll ws s).2.Ready ∧ s.sameSurroundings (issueAll ws s).2 := by
  induction ws generalizing s with
  | nil => exact ⟨hs, s.sameSurroundings_refl⟩
  | cons w ws ih =>
    obtain ⟨t, ht⟩ := exists_issued w s
    cases hok : t.status.ok with
    | true =>
      rw [issueAll_cons_of_ok ws (by rw [ht.issue_eq, hok]), ht.issue_eq]
      obtain ⟨hready, hsame⟩ := ih (ht.ready hs)
      exact ⟨hready, ht.same.trans hsame⟩
    | false =>
      rw [issueAll_cons_of_failed ws (by rw [ht.issue_eq, hok]), ht.issue_eq]
      exact ⟨ht.ready hs, ht.same⟩

theorem issueRows_frame (rows : List (List CmdWord)) {s : State} (hs : s.Ready) :
    (issueRows rows s).2.Ready ∧ s.sameSurroundings (issueRows rows s).2 := by
  induction rows generalizing s with
  | nil => exact ⟨hs, s.sameSurroundings_refl⟩
  | cons row rows ih =>
    obtain ⟨hready, hsame⟩ := issueAll_frame row hs
    cases hok : (issueAll row s).1 with
    | true =>
      rw [issueRows_cons_of_ok rows hok]
      obtain ⟨hready', hsame'⟩ := ih hready
      exact ⟨hready', hsame.trans hsame'⟩
    | false =>
      rw [issueRows_cons_of_failed rows hok]
      exact ⟨hready, hsame⟩

/-! ### The moves within a row (R209, R224) -/

/-- The coordinator when the words of a row have ended: all succeeded, or the first failure. -/
def Coordinator.rowEnded (ok : Bool) (h : Coordinator) : Coordinator :=
  if ok = true then { h with todo := [], waiting := false }
  else { h with job := .epilogue, todo := [], waiting := false, ok := false }

theorem hostStep_of_inRow {n : Nat} {s : State} (h : s.host.job.inRow n) : hostStep s = rowMove s := by
  unfold hostStep
  split
  case h_1 hjob | h_2 hjob | h_6 hjob => simp [hjob, JobState.inRow] at h
  case h_3 | h_4 | h_5 => rfl

/-- The coordinator presents its next word. -/
theorem rowMove_present {h : Coordinator} {w : CmdWord} {ws : List CmdWord} {s : State} (hs : s.Ready)
    (hwait : h.waiting = false) (htodo : h.todo = w :: ws) :
    rowMove (s.setHost h) = (s.setHost { h with todo := ws, waiting := true }).setQueue [w] := by
  simp only [rowMove, State.setHost_host, State.setHost_cmdQueue, hwait, htodo, hs.queue]
  rfl

/-- The coordinator takes STATUS.OK of a command that is done: it goes on with its words, or to the epilogue. -/
theorem rowMove_done {h : Coordinator} {s : State} (hwait : h.waiting = true) (hdone : s.status.done = true) :
    rowMove (s.setHost h)
      = s.setHost (if s.status.ok = true then { h with waiting := false } else h.rowEnded false) := by
  simp only [rowMove, State.setHost_host, State.setHost_status, hwait, hdone, if_true]
  exact (apply_ite (fun h' => s.setHost h') _ _ _).symm

/-- One word of a row, presented, run and acknowledged. -/
theorem reaches_word {n : Nat} {h : Coordinator} {w : CmdWord} {ws : List CmdWord} {s t : State} (hs : s.Ready)
    (hrow : h.job.inRow n) (hwait : h.waiting = false) (htodo : h.todo = w :: ws) (ht : s.Issued w t) :
    (s.setHost h).reaches
      (t.setHost (if t.status.ok = true then { h with todo := ws, waiting := false } else h.rowEnded false)) := by
  have hpresent := (hs.setHost h).reaches_hostStep
  rw [hostStep_of_inRow (n := n) hrow, rowMove_present hs hwait htodo] at hpresent
  have hrun := (ht.setHost { h with todo := ws, waiting := true }).reaches (hs.setHost _)
  have hdone := ((ht.ready hs).setHost { h with todo := ws, waiting := true }).reaches_hostStep
  rw [hostStep_of_inRow (n := n) hrow, rowMove_done rfl ht.done] at hdone
  exact hpresent.trans (hrun.trans hdone)

/-- The words of a row, up to its end. -/
theorem reaches_words {n : Nat} (ws : List CmdWord) {h : Coordinator} {s : State} (hs : s.Ready) (hrow : h.job.inRow n)
    (hwait : h.waiting = false) (htodo : h.todo = ws) :
    (s.setHost h).reaches ((issueAll ws s).2.setHost (h.rowEnded (issueAll ws s).1)) := by
  induction ws generalizing h s with
  | nil =>
    have hend : h.rowEnded true = h := by
      obtain ⟨⟩ := h
      simp_all [Coordinator.rowEnded]
    rw [issueAll, hend]
    exact State.reaches_refl _
  | cons w ws ih =>
    obtain ⟨t, ht⟩ := exists_issued w s
    have hword := reaches_word hs hrow hwait htodo ht
    cases hok : t.status.ok with
    | true =>
      rw [issueAll_cons_of_ok ws (by rw [ht.issue_eq, hok]), ht.issue_eq]
      rw [hok, if_pos rfl] at hword
      exact hword.trans (ih (h := { h with todo := ws, waiting := false }) (ht.ready hs) hrow rfl rfl)
    | false =>
      rw [issueAll_cons_of_failed ws (by rw [ht.issue_eq, hok]), ht.issue_eq]
      rwa [hok, if_neg (by simp)] at hword

/-! ### The rows of a job (R210, R224) -/

/-- The rows a job has still to begin, of `n` trailing rows, behind the one it is in. -/
def Coordinator.rowsLeft (n : Nat) (h : Coordinator) : List (List CmdWord) :=
  match h.job with
  | .preamble => ((List.range' 0 18).map fun r => rowWords r h.printer) ++ List.replicate n (blankRowWords h.printer)
  | .body r =>
    ((List.range' (r + 1) (17 - r)).map fun r => rowWords r h.printer) ++ List.replicate n (blankRowWords h.printer)
  | .trailer k => List.replicate (n - k) (blankRowWords h.printer)
  | .idle => []
  | .querying => []
  | .epilogue => []

/-- The rows of a job are the leading blank row and the rows left behind it. -/
theorem jobRows_eq (p : PrinterType) (n ie : Nat) (h : Coordinator) :
    jobRows p n = blankRowWords p :: (h.begun p ie).rowsLeft n := by
  rw [jobRows, List.range_eq_range']
  rfl

/-- The move out of a row: the first of the rows left, or the epilogue when none is. -/
theorem rowDone_rowsLeft {n : Nat} {h : Coordinator} (hn : 1 ≤ n) (hrow : h.job.inRow n) :
    (h.rowsLeft n = [] ∧ h.rowDone n = { h with job := .epilogue, ok := true })
      ∨ ∃ job, h.rowDone n = { h with job := job, todo := (h.rowDone n).todo } ∧ job.inRow n
          ∧ h.rowsLeft n = (h.rowDone n).todo :: (h.rowDone n).rowsLeft n := by
  unfold Coordinator.rowDone
  split
  case h_1 hjob =>
    exact .inr ⟨.body 0, rfl, Nat.zero_le _, by simp only [Coordinator.rowsLeft, hjob]; rfl⟩
  case h_2 r hjob =>
    split
    · next hr =>
      have hleft : 17 - r = 17 - (r + 1) + 1 := by omega
      refine .inr ⟨.body (r + 1), rfl, hr, ?_⟩
      simp only [Coordinator.rowsLeft, hjob, hleft, List.range'_succ, List.map_cons, List.cons_append]
    · next hr =>
      have hleft : 17 - r = 0 := by omega
      obtain ⟨m, rfl⟩ := Nat.exists_eq_add_of_le' hn
      refine .inr ⟨.trailer 1, rfl, ⟨le_rfl, hn⟩, ?_⟩
      simp only [Coordinator.rowsLeft, hjob, hleft, List.range'_zero, List.map_nil, List.nil_append, List.replicate_succ,
        Nat.add_sub_cancel]
  case h_3 k hjob =>
    split
    · next hk =>
      have hleft : n - k = n - (k + 1) + 1 := by omega
      refine .inr ⟨.trailer (k + 1), rfl, ⟨Nat.le_add_left 1 k, hk⟩, ?_⟩
      simp only [Coordinator.rowsLeft, hjob, hleft, List.replicate_succ]
    · next hk =>
      have hleft : n - k = 0 := by omega
      exact .inl ⟨by simp only [Coordinator.rowsLeft, hjob, hleft, List.replicate_zero], rfl⟩
  case h_4 hjob | h_5 hjob | h_6 hjob => simp [hjob, JobState.inRow] at hrow

/-- The coordinator `h'` is `h` come to its epilogue, with `ok` the job's result. -/
structure Coordinator.Finished (ok : Bool) (h h' : Coordinator) : Prop where
  job : h'.job = .epilogue
  ok : h'.ok = ok
  ieSaved : h'.ieSaved = h.ieSaved
  request : h'.request = h.request

theorem Coordinator.rowEnded_finished (h : Coordinator) : h.Finished false (h.rowEnded false) := ⟨rfl, rfl, rfl, rfl⟩

theorem rowMove_rowDone {h : Coordinator} {s : State} (hwait : h.waiting = false) (htodo : h.todo = []) :
    rowMove (s.setHost h) = s.setHost (h.rowDone s.params.nTrailer) := by
  simp only [rowMove, State.setHost_host, hwait, htodo]
  rfl

/-- One row whose words all succeed, and the move out of it. -/
theorem reaches_row {h : Coordinator} {s : State} (hs : s.Ready) (hrow : h.job.inRow s.params.nTrailer)
    (hwait : h.waiting = false) (hok : (issueAll h.todo s).1 = true) :
    (s.setHost h).reaches
      ((issueAll h.todo s).2.setHost ({ h with todo := [], waiting := false }.rowDone s.params.nTrailer)) := by
  have hwords := reaches_words h.todo hs hrow hwait rfl
  obtain ⟨hready, hparams, -⟩ := issueAll_frame h.todo hs
  have hmove := (hready.setHost { h with todo := [], waiting := false }).reaches_hostStep
  rw [hostStep_of_inRow (n := s.params.nTrailer) hrow, rowMove_rowDone rfl rfl, hparams] at hmove
  rw [hok] at hwords
  exact hwords.trans hmove

/-- Where a job goes from a row on: with `rows` behind it, to an epilogue that holds the sequential result. -/
def Coordinator.endsRows (rows : List (List CmdWord)) (h : Coordinator) (s : State) : Prop :=
  ∃ h', h.Finished (issueRows (h.todo :: rows) s).1 h'
    ∧ (s.setHost h).reaches ((issueRows (h.todo :: rows) s).2.setHost h')

theorem endsRows_of_failed (rows : List (List CmdWord)) {h : Coordinator} {s : State} (hs : s.Ready)
    (hrow : h.job.inRow s.params.nTrailer) (hwait : h.waiting = false) (hok : (issueAll h.todo s).1 = false) :
    h.endsRows rows s := by
  have hwords := reaches_words h.todo hs hrow hwait rfl
  rw [hok] at hwords
  rw [Coordinator.endsRows, issueRows_cons_of_failed rows hok]
  exact ⟨_, h.rowEnded_finished, hwords⟩

/-- The rows of a job from the one it is in on, up to the epilogue. -/
theorem endsRows_of_rowsLeft (rows : List (List CmdWord)) {h : Coordinator} {s : State} (hs : s.Ready)
    (hn : 1 ≤ s.params.nTrailer) (hrow : h.job.inRow s.params.nTrailer) (hwait : h.waiting = false)
    (hleft : h.rowsLeft s.params.nTrailer = rows) : h.endsRows rows s := by
  induction rows generalizing h s with
  | nil =>
    cases hok : (issueAll h.todo s).1 with
    | false => exact endsRows_of_failed _ hs hrow hwait hok
    | true =>
      have hto := reaches_row hs hrow hwait hok
      rcases rowDone_rowsLeft (h := { h with todo := [], waiting := false }) hn hrow with ⟨-, hdone⟩ |
        ⟨job, -, -, hnext⟩
      · rw [hdone] at hto
        rw [Coordinator.endsRows, issueRows_cons_of_ok _ hok]
        exact ⟨{ h with job := .epilogue, todo := [], waiting := false, ok := true }, ⟨rfl, rfl, rfl, rfl⟩, hto⟩
      · exact absurd (hleft.symm.trans hnext) (by simp)
  | cons row rows ih =>
    cases hok : (issueAll h.todo s).1 with
    | false => exact endsRows_of_failed _ hs hrow hwait hok
    | true =>
      have hto := reaches_row hs hrow hwait hok
      obtain ⟨hready, hparams, -⟩ := issueAll_frame h.todo hs
      rcases rowDone_rowsLeft (h := { h with todo := [], waiting := false }) hn hrow with ⟨hnone, -⟩ |
        ⟨job, hdone, hrow', hnext⟩
      · exact absurd (hleft.symm.trans hnone) (by simp)
      · obtain ⟨htodo, hleft'⟩ := List.cons.inj (hleft.symm.trans hnext)
        generalize Coordinator.rowDone _ _ = h' at hto hdone htodo hleft'
        rw [← hparams] at hn hrow' hleft'
        have hjob : h'.job = job := by rw [hdone]
        obtain ⟨h'', hfin, hto'⟩ :=
          ih (h := h') hready hn (hjob ▸ hrow') (by rw [hdone]) hleft'.symm
        rw [← htodo] at hfin hto'
        rw [Coordinator.endsRows, issueRows_cons_of_ok _ hok]
        exact ⟨h'', ⟨hfin.job, hfin.ok, hfin.ieSaved.trans (by rw [hdone]), hfin.request.trans (by rw [hdone])⟩,
          hto.trans hto'⟩

/-- The rows of a whole job, from its first on. -/
theorem reaches_jobRows (p : PrinterType) (ie : Nat) (h : Coordinator) {s : State} (hs : s.Ready)
    (hn : 1 ≤ s.params.nTrailer) :
    ∃ h', (h.begun p ie).Finished (issueRows (jobRows p s.params.nTrailer) s).1 h'
      ∧ (s.setHost (h.begun p ie)).reaches ((issueRows (jobRows p s.params.nTrailer) s).2.setHost h') := by
  rw [jobRows_eq p s.params.nTrailer ie h]
  exact endsRows_of_rowsLeft (h := h.begun p ie) _ hs hn trivial rfl rfl

/-! ### The job (R210, R224) -/

theorem hostStep_of_request {s : State} (hjob : s.host.job = .idle) (hreq : s.host.request = true) :
    hostStep s = s.setHost { s.host with job := .querying, request := false } := by
  simp only [hostStep, hjob, hreq, if_true]

theorem hostStep_of_epilogue {h : Coordinator} {ie : Nat} {s : State} (hjob : h.job = .epilogue) (hie : h.ieSaved = ie) :
    hostStep (s.setHost h) = (s.setIe ie).setHost { h with job := .idle, result := some h.ok } := by
  subst hie
  simp only [hostStep, State.setHost_host, hjob]
  rfl

theorem printScreen_host {s : State} (hs : s.Ready) : (printScreen s).2.host = s.host := by
  by_cases hp : mapQuery s.link.nextQuery.1 = .fail
  · rw [printScreen_of_fail hp, State.setLink_host]
  · have hstart : s.jobStart.Ready := ⟨hs.reset, hs.phase, hs.queue⟩
    obtain ⟨-, -, -, -, -, hhost, -⟩ :=
      issueRows_frame (jobRows (mapQuery s.link.nextQuery.1) s.params.nTrailer) hstart
    rw [printScreen_of_printer rfl hp]
    exact hhost

/-- A job from its query on, with the coordinator `h`: the coordinator ends idle with the sequential result, beside the state
that `PRINT_SCREEN` leaves. -/
theorem reaches_job {h : Coordinator} {s : State} (hs : s.Ready) (hn : 1 ≤ s.params.nTrailer) (hjob : h.job = .querying) :
    ∃ h' : Coordinator, h'.job = .idle ∧ h'.request = h.request ∧ h'.result = some (printScreen s).1
      ∧ (s.setHost h).reaches ((printScreen s).2.setHost h') := by
  have hquery := (hs.setHost h).reaches_hostStep
  rw [hostStep_of_querying hjob] at hquery
  by_cases hp : mapQuery s.link.nextQuery.1 = .fail
  · rw [queryPrinter_of_fail (s := s.setHost h) hp] at hquery
    rw [printScreen_of_fail hp]
    exact ⟨{ h with job := .idle, printer := .fail, result := some false }, rfl, rfl, rfl, hquery⟩
  · rw [queryPrinter_of_printer (s := s.setHost h) rfl hp] at hquery
    have hstart : s.jobStart.Ready := ⟨hs.reset, hs.phase, hs.queue⟩
    obtain ⟨h', hfin, hrows⟩ := reaches_jobRows (mapQuery s.link.nextQuery.1) s.ie h hstart hn
    obtain ⟨hready, -⟩ := issueRows_frame (jobRows (mapQuery s.link.nextQuery.1) s.params.nTrailer) hstart
    have hend := (hready.setHost h').reaches_hostStep
    rw [hostStep_of_epilogue hfin.job hfin.ieSaved] at hend
    rw [printScreen_of_printer rfl hp]
    exact ⟨{ h' with job := .idle, result := some h'.ok }, rfl, hfin.request, congrArg some hfin.ok,
      hquery.trans (hrows.trans hend)⟩

/-- Settles O48: the request leads to the query, the query's job to the state that `PRINT_SCREEN` leaves, the coordinator
apart, and `PRINT_SCREEN` leaves the coordinator alone. -/
theorem coordinatorRunsPrintScreen : Obligations.CoordinatorRunsPrintScreen := by
  intro s hreset hphase hqueue hjob hreq hn
  have hs : s.Ready := ⟨hreset, hphase, hqueue⟩
  have hrequest := hs.reaches_hostStep
  rw [hostStep_of_request hjob hreq] at hrequest
  obtain ⟨h', hidle, hreq', hresult, hto⟩ :=
    reaches_job (h := { s.host with job := .querying, request := false }) hs hn rfl
  obtain ⟨n, hrun⟩ := hrequest.trans hto
  exact ⟨n, _, hrun, hidle, hreq', hresult,
    congrArg (fun h => { (printScreen s).2 with host := h }) (printScreen_host hs).symm⟩

end Sys2Proof.Machine
end

section
/-! Exceptions (O9, O10, O17). What a raise records, what the command port makes of an illegal word in either grain, and that no
step from a state with the invariant meets the fault of the sequencing table: each row with a test has an outcome for every
combination of latches and counters that the invariant allows. -/

namespace Sys2Proof.Machine

/-! ### The raise (R241, R246) -/

theorem Status.illegal_word : (Status.raised .illegalCommand).word = 0x12 := by decide

/-- Settles O10: the STATUS word of each error; the raise writes the three fields named and no other. -/
theorem raiseRecordsTheErrorAndIdles : Obligations.RaiseRecordsTheErrorAndIdles := by
  intro kind info s
  refine ⟨?_, raise_einfo kind info s, raise_phase kind info s, rfl⟩
  cases kind with
  | packetSendTimeout => exact Status.timedOut_word
  | illegalCommand => exact Status.illegal_word

/-! ### An illegal word at the port (R244) -/

theorem exists_decode_error {w : CmdWord} (h : ∀ i, decode w ≠ .ok i) : ∃ e, decode w = .error e := by
  cases hdec : decode w with
  | error e => exact ⟨e, rfl⟩
  | ok i => exact absurd hdec (h i)

theorem acceptWord_of_decode_error {w : CmdWord} {e : DecodeRefusal} (h : decode w = .error e) (s : State) :
    acceptWord w s = raiseIllegal w s := by
  simp only [acceptWord, h]

theorem execWord_of_decode_error {w : CmdWord} {e : DecodeRefusal} (h : decode w = .error e) (s : State) :
    execWord w s = .next (raiseIllegal w s) := by
  simp only [execWord, h]

/-- In either grain the idle engine takes an illegal word from the port and raises: there is no command to run, so the grains
do the same. -/
theorem step_illegal {s : State} {w : CmdWord} {rest : List CmdWord} {e : DecodeRefusal} (hreset : s.resetLine = false)
    (hphase : s.phase = .idle) (hqueue : s.cmdQueue = w :: rest) (hdec : decode w = .error e) :
    step s = .next (raiseIllegal w (s.setQueue rest)) := by
  cases hgrain : s.grain with
  | row => rw [step_accept hreset hgrain hphase hqueue, acceptWord_of_decode_error hdec]
  | command => rw [step_command hreset hgrain hphase hqueue, execWord_of_decode_error hdec]

/-- In IDLE the raise leaves PHASE as it was, besides what every raise leaves. -/
theorem raiseIllegal_of_idle {w : CmdWord} {s : State} (hphase : s.phase = .idle) :
    raiseIllegal w s = { s with status := Status.raised .illegalCommand, einfo := w } := by
  cases s
  cases hphase
  rfl

/-- Settles O9: the step is the raise on the state without the word, and the raise finds PHASE at IDLE. -/
theorem illegalWordRaisesIllegalCommand : Obligations.IllegalWordRaisesIllegalCommand := by
  intro s w rest hreset hphase hqueue hillegal
  obtain ⟨e, hdec⟩ := exists_decode_error hillegal
  have hphase' : (s.setQueue rest).phase = .idle := hphase
  rw [step_illegal hreset hphase hqueue hdec, raiseIllegal_of_idle hphase']
  rfl

/-! ### The rows with a test, under the invariant (R27) -/

/-- PKT never passes the last packet of the command. -/
theorem State.onPacket.exists_lastPacket {s : State} (h : s.onPacket) :
    ∃ last, lastPacket s.ops.opc = some last ∧ s.pkt.toNat ≤ last := by
  rcases h with ⟨hops, hk⟩ | ⟨plane, hops, hk⟩
  · exact ⟨3, by rw [hops]; rfl, hk⟩
  · exact ⟨13, by rw [hops]; rfl, hk⟩

/-- Packets 0 to 12 are data packets of either command; packet 13 is the terminator packet, and the command is TX2. -/
theorem loadCurrent_answers {s : State} (hp : s.phase = .pktLoad) (h : s.onPacket) : ∃ t, loadCurrent s = some t := by
  obtain ⟨last, hlast, hle⟩ := h.exists_lastPacket
  by_cases hdata : s.pkt.toNat < 13
  · have hself : (s.setPkt (BitVec.ofNat 4 s.pkt.toNat)).setPhase .pktLoad = s := by
      rw [BitVec.ofNat_toNat, BitVec.setWidth_eq, ← hp]
      rfl
    have hload := loadCurrent_data hlast hle hdata
    rw [hself] at hload
    exact ⟨_, hload⟩
  · rcases h with ⟨-, hk⟩ | ⟨plane, hops, hk⟩
    · omega
    · have hpkt : s.pkt = 13 := BitVec.eq_of_toNat_eq (show s.pkt.toNat = 13 by omega)
      have hself : (s.setPkt 13).setPhase .pktLoad = s := by
        rw [← hpkt, ← hp]
        rfl
      have hload := loadCurrent_terminator hops
      rw [hself] at hload
      exact ⟨_, hload⟩

theorem afterPacket_answers {s : State} (h : s.onPacket) : ∃ t, afterPacket s = some t := by
  obtain ⟨last, hlast, hle⟩ := h.exists_lastPacket
  simp only [afterPacket, hlast]
  split_ifs with hlt heq hopc
  · exact ⟨_, rfl⟩
  · exact ⟨_, rfl⟩
  · exact ⟨_, rfl⟩
  · omega

theorem afterFailedAttempt_answers {s : State} (hatt : s.att.toNat ≤ 10) : ∃ t, afterFailedAttempt s = some t := by
  unfold afterFailedAttempt
  split_ifs with hagain hlast
  · exact ⟨_, rfl⟩
  · exact ⟨_, rfl⟩
  · omega

theorem afterBackoff_answers {s : State} (hatt : s.att.toNat ≤ 10) : ∃ t, afterBackoff s = some t := by
  unfold afterBackoff
  split_ifs with hagain hlast
  · exact ⟨_, rfl⟩
  · exact ⟨_, rfl⟩
  · omega

/-- Sending leaves the latches, PKT and ATT alone, so each of its two outcomes has a row. -/
theorem pktSend_answers {s : State} (h : s.onPacket) (hatt : s.att.toNat ≤ 10) : ∃ t, pktSend s = some t := by
  simp only [pktSend]
  split_ifs with hsent
  · exact afterPacket_answers (State.onPacket_congr (linkSendCmdBuf_snd_ops _ s) (linkSendCmdBuf_snd_pkt _ s) h)
  · exact afterFailedAttempt_answers (by rwa [linkSendCmdBuf_snd_att])

theorem bulkEmit_answers {s : State} (hidx : s.idx.toNat ≤ 111) : ∃ t, bulkEmit s = some t := by
  unfold bulkEmit
  split_ifs with hin hlt
  · exact ⟨_, rfl⟩
  · exact ⟨_, rfl⟩
  · omega

theorem tailEmit_answers {s : State} (hidx : s.idx.toNat ≤ 5) : ∃ t, tailEmit s = some t := by
  unfold tailEmit
  split_ifs with hlt heq
  · exact ⟨_, rfl⟩
  · exact ⟨_, rfl⟩
  · omega

/-- The latched plane selector is the code of one. -/
theorem asmRun_answers {s : State} {row : BitVec 5} {psel : PlaneSel}
    (hops : s.ops = OperandLatches.ofInstr (.asm row psel)) : ∃ t, asmRun s = some t := by
  have hsel : PlaneSel.ofBits s.ops.pselr = some psel := by rw [hops]; exact PlaneSel.ofBits_code psel
  simp only [asmRun, hsel]
  exact ⟨_, rfl⟩

/-! ### Every step -/

/-- The table has a row for every state whose latches and counters agree with PHASE. -/
theorem engineRow_answers {s : State} (hseq : s.sequenced) : ∃ t, engineRow s = some t := by
  unfold engineRow
  split
  case h_1 hp => split <;> exact ⟨_, rfl⟩
  case h_3 hp =>
    simp only [State.sequenced, hp] at hseq
    obtain ⟨row, psel, -, hops⟩ := hseq
    exact asmRun_answers hops
  case h_4 hp =>
    obtain ⟨t, hload⟩ := loadCurrent_answers hp ((sequenced_pktLoad hp).1 hseq)
    exact ⟨_, congrArg (Option.map _) hload⟩
  case h_5 hp =>
    obtain ⟨hpacket, -, hatt⟩ := (sequenced_attempt (.inl hp)).1 hseq
    exact pktSend_answers hpacket hatt
  case h_6 hp =>
    obtain ⟨-, -, hatt⟩ := (sequenced_attempt (.inr hp)).1 hseq
    exact afterBackoff_answers hatt
  case h_8 hp =>
    obtain ⟨-, hidx⟩ := (sequenced_bulk (.inr hp)).1 hseq
    exact bulkEmit_answers hidx
  case h_10 hp =>
    obtain ⟨-, hidx⟩ := (sequenced_tail (.inr hp)).1 hseq
    exact tailEmit_answers hidx
  case h_2 | h_7 | h_9 | h_11 | h_12 | h_13 | h_14 => exact ⟨_, rfl⟩

theorem engineStep_answers {s : State} (hseq : s.sequenced) : ∃ t, engineStep s = .next t := by
  obtain ⟨t, hrow⟩ := engineRow_answers hseq
  exact ⟨t, engineStep_eq_next.2 hrow⟩

/-- Settles O17: of the five kinds of step only a row of a running engine could fail to answer, and the invariant says what
PHASE requires of the latches and counters. -/
theorem invariantStatesStepSafely : Obligations.InvariantStatesStepSafely := by
  intro s hinv
  rcases step_cases s with ⟨-, hs⟩ | ⟨-, -, hs⟩ | ⟨w, rest, -, -, -, -, hs⟩ | ⟨w, rest, -, -, -, -, hs⟩ | ⟨-, -, -, hs⟩
  · exact ⟨_, hs⟩
  · obtain ⟨t, ht⟩ := engineStep_answers hinv.sequenced
    exact ⟨t, hs.trans ht⟩
  · exact ⟨_, hs⟩
  · obtain ⟨t, ht⟩ := exists_issued w (s.setQueue rest)
    exact ⟨t, hs.trans ht.exec_eq⟩
  · exact ⟨_, hs⟩

end Sys2Proof.Machine
end

section
/-! The reset event (O7). With the reset line asserted the step is `resetEvent`, in every phase and grain, so a running command
is abandoned where it stands; what that event sets and what it leaves is read off its equations, one for each field. -/

namespace Sys2Proof.Machine

theorem Status.reset_word : Status.reset.word = 0 := by decide

/-- Settles O7: the line comes before every other agent, so the step is the reset event whatever the engine was doing. -/
theorem resetEventAbandonsTheCommand : Obligations.ResetEventAbandonsTheCommand := by
  intro s hline
  have hstatus : (resetEvent s).status.word = 0 := by rw [resetEvent_status, Status.reset_word]
  exact ⟨resetEvent s, step_reset hline, resetEvent_phase s, hstatus, resetEvent_einfo s, resetEvent_trace s,
    resetEvent_link s, resetEvent_params s, resetEvent_fb s, resetEvent_ie s, resetEvent_cmdQueue s, resetEvent_host s,
    resetEvent_resetLine s, resetEvent_resets s⟩

end Sys2Proof.Machine
end
